-- ==== Sys2Proof/Word.lean ====
section
/-! DEFINITION. The two word types of the core (00_scope.md R5): bytes and 16-bit words. -/

namespace Sys2Proof

/-- An 8-bit value: a register slot, a memory byte, an instruction byte (R5). -/
abbrev Byte := BitVec 8

/-- A 16-bit value: SP, PC, a register pair, an address (R5). -/
abbrev Word := BitVec 16

end Sys2Proof
end

