-- ==== Sys2Proof/Syntax.lean ====
section
/-! DEFINITION. The instructions of the core as syntax: the operand identifiers of the spec, `Instr` with one
constructor per mnemonic of spec/opcode_table.json, and `Form`, the same instructions by rule and operand. -/

namespace Sys2Proof

/-- SingleRegister, the 8-bit slots of the register file (10_state.md R21). -/
inductive SingleRegister where
  | a | b | c | d | e | h | l | f
  deriving DecidableEq, Repr

/-- DoubleRegister, the 16-bit identifiers (10_state.md R21). -/
inductive DoubleRegister where
  | af | bc | de | hl | sp | pc
  deriving DecidableEq, Repr

/-- The register operand r (00_scope.md R10), in the value order of 30_encoding.md R93. -/
inductive Reg8 where
  | b | c | d | e | h | l | a
  deriving DecidableEq, Repr

/-- The pair operand rr (00_scope.md R10, 30_encoding.md R94). -/
inductive Pair where
  | bc | de | hl | sp
  deriving DecidableEq, Repr

/-- The stack pair operand qq (00_scope.md R10, 30_encoding.md R94). -/
inductive StackPair where
  | bc | de | hl | af
  deriving DecidableEq, Repr

/-- The condition operand cc (10_state.md R37, 30_encoding.md R95). -/
inductive Cond where
  | nz | z | nc | c
  deriving DecidableEq, Repr

/-- The eight operations of the 8-bit ALU (30_encoding.md R96). -/
inductive AluOp where
  | add | adc | sub | sbc | and | xor | or | cp
  deriving DecidableEq, Repr

/-- The eight rotate and shift operations (30_encoding.md R98). -/
inductive RotOp where
  | rlc | rrc | rl | rr | sla | sra | swap | srl
  deriving DecidableEq, Repr

/-- A value of a 2-bit opcode field (30_encoding.md R92: x and p). -/
inductive Index4 where
  | i0 | i1 | i2 | i3
  deriving DecidableEq, Repr

/-- A value of a 3-bit opcode field: y, z, a bit index b, a restart number (30_encoding.md R92, R97). -/
inductive Index8 where
  | i0 | i1 | i2 | i3 | i4 | i5 | i6 | i7
  deriving DecidableEq, Repr

/-- The number a 3-bit field stands for. -/
def Index8.val : Index8 → Nat
  | .i0 => 0
  | .i1 => 1
  | .i2 => 2
  | .i3 => 3
  | .i4 => 4
  | .i5 => 5
  | .i6 => 6
  | .i7 => 7

/-- The three sources of a binary 8-bit ALU operation (40_alu8.md R130): a register, the byte at HL, an immediate. -/
inductive Source where
  | reg (r : Reg8)
  | mem
  | imm (d8 : Byte)
  deriving DecidableEq, Repr

/-- The instructions by rule and operand: one constructor per rule of 40_alu8.md to 46_misc.md (the (HL) and
immediate forms of an 8-bit ALU rule together), as the tables R100 and R102 of 30_encoding.md list them.
`Form.toInstr` (Decode.lean) names the `Instr` of each. -/
inductive Form where
  | alu (op : AluOp) (src : Source)
  | incReg (r : Reg8)
  | incMem
  | decReg (r : Reg8)
  | decMem
  | addHl (rr : Pair)
  | addSp (e8 : Byte)
  | incPair (rr : Pair)
  | decPair (rr : Pair)
  | ldRegReg (r r' : Reg8)
  | ldRegImm (r : Reg8) (d8 : Byte)
  | ldRegMem (r : Reg8)
  | ldMemReg (r : Reg8)
  | ldMemImm (d8 : Byte)
  | ldABc
  | ldADe
  | ldBcA
  | ldDeA
  | ldAAddr (a16 : Word)
  | ldAddrA (a16 : Word)
  | ldhAImm (a8 : Byte)
  | ldhImmA (a8 : Byte)
  | ldAC
  | ldCA
  | ldHlIncA
  | ldHlDecA
  | ldAHlInc
  | ldAHlDec
  | ldPairImm (rr : Pair) (d16 : Word)
  | ldAddrSp (a16 : Word)
  | ldSpHl
  | ldHlSp (e8 : Byte)
  | push (qq : StackPair)
  | pop (qq : StackPair)
  | jp (a16 : Word)
  | jpCond (cc : Cond) (a16 : Word)
  | jpHl
  | jr (e8 : Byte)
  | jrCond (cc : Cond) (e8 : Byte)
  | call (a16 : Word)
  | callCond (cc : Cond) (a16 : Word)
  | ret
  | retCond (cc : Cond)
  | reti
  | rst (y : Index8)
  | rlca
  | rrca
  | rla
  | rra
  | rotReg (op : RotOp) (r : Reg8)
  | rotMem (op : RotOp)
  | bitReg (b : Index8) (r : Reg8)
  | bitMem (b : Index8)
  | resReg (b : Index8) (r : Reg8)
  | resMem (b : Index8)
  | setReg (b : Index8) (r : Reg8)
  | setMem (b : Index8)
  | nop
  | halt
  | stop (b1 : Byte)
  | di
  | ei
  | daa
  | cpl
  | scf
  | ccf
  | illegal (opcode : Byte)
  deriving DecidableEq, Repr

/-- The instructions, one constructor per mnemonic of spec/opcode_table.json. In a name `mHL` is the operand (HL),
and so on for (BC), (DE), (C), (a8), (a16), (HL+), (HL-). An operand is the instruction's own byte or word:
e8 is the raw offset byte (30_encoding.md R99), b1 is STOP's ignored second byte (R104). `illegal` is the table's
row `(illegal)`: rule R101's error with the byte it carries. -/
inductive Instr where
  | nop -- NOP, R280
  | ld_bc_d16 (d16 : Word) -- LD BC,d16, R200
  | ld_mBC_a -- LD (BC),A, R187
  | inc_bc -- INC BC, R172
  | inc_b -- INC B, R156
  | dec_b -- DEC B, R158
  | ld_b_d8 (d8 : Byte) -- LD B,d8, R181
  | rlca -- RLCA, R241
  | ld_mA16_sp (a16 : Word) -- LD (a16),SP, R201
  | add_hl_bc -- ADD HL,BC, R170
  | ld_a_mBC -- LD A,(BC), R185
  | dec_bc -- DEC BC, R173
  | inc_c -- INC C, R156
  | dec_c -- DEC C, R158
  | ld_c_d8 (d8 : Byte) -- LD C,d8, R181
  | rrca -- RRCA, R242
  | stop (b1 : Byte) -- STOP, R282
  | ld_de_d16 (d16 : Word) -- LD DE,d16, R200
  | ld_mDE_a -- LD (DE),A, R188
  | inc_de -- INC DE, R172
  | inc_d -- INC D, R156
  | dec_d -- DEC D, R158
  | ld_d_d8 (d8 : Byte) -- LD D,d8, R181
  | rla -- RLA, R243
  | jr_e8 (e8 : Byte) -- JR e8, R223
  | add_hl_de -- ADD HL,DE, R170
  | ld_a_mDE -- LD A,(DE), R186
  | dec_de -- DEC DE, R173
  | inc_e -- INC E, R156
  | dec_e -- DEC E, R158
  | ld_e_d8 (d8 : Byte) -- LD E,d8, R181
  | rra -- RRA, R244
  | jr_nz_e8 (e8 : Byte) -- JR NZ,e8, R224
  | ld_hl_d16 (d16 : Word) -- LD HL,d16, R200
  | ld_mHLinc_a -- LD (HL+),A, R195
  | inc_hl -- INC HL, R172
  | inc_h -- INC H, R156
  | dec_h -- DEC H, R158
  | ld_h_d8 (d8 : Byte) -- LD H,d8, R181
  | daa -- DAA, R285
  | jr_z_e8 (e8 : Byte) -- JR Z,e8, R224
  | add_hl_hl -- ADD HL,HL, R170
  | ld_a_mHLinc -- LD A,(HL+), R197
  | dec_hl -- DEC HL, R173
  | inc_l -- INC L, R156
  | dec_l -- DEC L, R158
  | ld_l_d8 (d8 : Byte) -- LD L,d8, R181
  | cpl -- CPL, R286
  | jr_nc_e8 (e8 : Byte) -- JR NC,e8, R224
  | ld_sp_d16 (d16 : Word) -- LD SP,d16, R200
  | ld_mHLdec_a -- LD (HL-),A, R196
  | inc_sp -- INC SP, R172
  | inc_mHL -- INC (HL), R157
  | dec_mHL -- DEC (HL), R159
  | ld_mHL_d8 (d8 : Byte) -- LD (HL),d8, R184
  | scf -- SCF, R287
  | jr_c_e8 (e8 : Byte) -- JR C,e8, R224
  | add_hl_sp -- ADD HL,SP, R170
  | ld_a_mHLdec -- LD A,(HL-), R198
  | dec_sp -- DEC SP, R173
  | inc_a -- INC A, R156
  | dec_a -- DEC A, R158
  | ld_a_d8 (d8 : Byte) -- LD A,d8, R181
  | ccf -- CCF, R288
  | ld_b_b -- LD B,B, R180
  | ld_b_c -- LD B,C, R180
  | ld_b_d -- LD B,D, R180
  | ld_b_e -- LD B,E, R180
  | ld_b_h -- LD B,H, R180
  | ld_b_l -- LD B,L, R180
  | ld_b_mHL -- LD B,(HL), R182
  | ld_b_a -- LD B,A, R180
  | ld_c_b -- LD C,B, R180
  | ld_c_c -- LD C,C, R180
  | ld_c_d -- LD C,D, R180
  | ld_c_e -- LD C,E, R180
  | ld_c_h -- LD C,H, R180
  | ld_c_l -- LD C,L, R180
  | ld_c_mHL -- LD C,(HL), R182
  | ld_c_a -- LD C,A, R180
  | ld_d_b -- LD D,B, R180
  | ld_d_c -- LD D,C, R180
  | ld_d_d -- LD D,D, R180
  | ld_d_e -- LD D,E, R180
  | ld_d_h -- LD D,H, R180
  | ld_d_l -- LD D,L, R180
  | ld_d_mHL -- LD D,(HL), R182
  | ld_d_a -- LD D,A, R180
  | ld_e_b -- LD E,B, R180
  | ld_e_c -- LD E,C, R180
  | ld_e_d -- LD E,D, R180
  | ld_e_e -- LD E,E, R180
  | ld_e_h -- LD E,H, R180
  | ld_e_l -- LD E,L, R180
  | ld_e_mHL -- LD E,(HL), R182
  | ld_e_a -- LD E,A, R180
  | ld_h_b -- LD H,B, R180
  | ld_h_c -- LD H,C, R180
  | ld_h_d -- LD H,D, R180
  | ld_h_e -- LD H,E, R180
  | ld_h_h -- LD H,H, R180
  | ld_h_l -- LD H,L, R180
  | ld_h_mHL -- LD H,(HL), R182
  | ld_h_a -- LD H,A, R180
  | ld_l_b -- LD L,B, R180
  | ld_l_c -- LD L,C, R180
  | ld_l_d -- LD L,D, R180
  | ld_l_e -- LD L,E, R180
  | ld_l_h -- LD L,H, R180
  | ld_l_l -- LD L,L, R180
  | ld_l_mHL -- LD L,(HL), R182
  | ld_l_a -- LD L,A, R180
  | ld_mHL_b -- LD (HL),B, R183
  | ld_mHL_c -- LD (HL),C, R183
  | ld_mHL_d -- LD (HL),D, R183
  | ld_mHL_e -- LD (HL),E, R183
  | ld_mHL_h -- LD (HL),H, R183
  | ld_mHL_l -- LD (HL),L, R183
  | halt -- HALT, R281
  | ld_mHL_a -- LD (HL),A, R183
  | ld_a_b -- LD A,B, R180
  | ld_a_c -- LD A,C, R180
  | ld_a_d -- LD A,D, R180
  | ld_a_e -- LD A,E, R180
  | ld_a_h -- LD A,H, R180
  | ld_a_l -- LD A,L, R180
  | ld_a_mHL -- LD A,(HL), R182
  | ld_a_a -- LD A,A, R180
  | add_a_b -- ADD A,B, R132
  | add_a_c -- ADD A,C, R132
  | add_a_d -- ADD A,D, R132
  | add_a_e -- ADD A,E, R132
  | add_a_h -- ADD A,H, R132
  | add_a_l -- ADD A,L, R132
  | add_a_mHL -- ADD A,(HL), R133
  | add_a_a -- ADD A,A, R132
  | adc_a_b -- ADC A,B, R135
  | adc_a_c -- ADC A,C, R135
  | adc_a_d -- ADC A,D, R135
  | adc_a_e -- ADC A,E, R135
  | adc_a_h -- ADC A,H, R135
  | adc_a_l -- ADC A,L, R135
  | adc_a_mHL -- ADC A,(HL), R136
  | adc_a_a -- ADC A,A, R135
  | sub_b -- SUB B, R138
  | sub_c -- SUB C, R138
  | sub_d -- SUB D, R138
  | sub_e -- SUB E, R138
  | sub_h -- SUB H, R138
  | sub_l -- SUB L, R138
  | sub_mHL -- SUB (HL), R139
  | sub_a -- SUB A, R138
  | sbc_a_b -- SBC A,B, R141
  | sbc_a_c -- SBC A,C, R141
  | sbc_a_d -- SBC A,D, R141
  | sbc_a_e -- SBC A,E, R141
  | sbc_a_h -- SBC A,H, R141
  | sbc_a_l -- SBC A,L, R141
  | sbc_a_mHL -- SBC A,(HL), R142
  | sbc_a_a -- SBC A,A, R141
  | and_b -- AND B, R144
  | and_c -- AND C, R144
  | and_d -- AND D, R144
  | and_e -- AND E, R144
  | and_h -- AND H, R144
  | and_l -- AND L, R144
  | and_mHL -- AND (HL), R145
  | and_a -- AND A, R144
  | xor_b -- XOR B, R147
  | xor_c -- XOR C, R147
  | xor_d -- XOR D, R147
  | xor_e -- XOR E, R147
  | xor_h -- XOR H, R147
  | xor_l -- XOR L, R147
  | xor_mHL -- XOR (HL), R148
  | xor_a -- XOR A, R147
  | or_b -- OR B, R150
  | or_c -- OR C, R150
  | or_d -- OR D, R150
  | or_e -- OR E, R150
  | or_h -- OR H, R150
  | or_l -- OR L, R150
  | or_mHL -- OR (HL), R151
  | or_a -- OR A, R150
  | cp_b -- CP B, R153
  | cp_c -- CP C, R153
  | cp_d -- CP D, R153
  | cp_e -- CP E, R153
  | cp_h -- CP H, R153
  | cp_l -- CP L, R153
  | cp_mHL -- CP (HL), R154
  | cp_a -- CP A, R153
  | ret_nz -- RET NZ, R228
  | pop_bc -- POP BC, R205
  | jp_nz_a16 (a16 : Word) -- JP NZ,a16, R221
  | jp_a16 (a16 : Word) -- JP a16, R220
  | call_nz_a16 (a16 : Word) -- CALL NZ,a16, R226
  | push_bc -- PUSH BC, R204
  | add_a_d8 (d8 : Byte) -- ADD A,d8, R134
  | rst_00h -- RST 00h, R230
  | ret_z -- RET Z, R228
  | ret -- RET, R227
  | jp_z_a16 (a16 : Word) -- JP Z,a16, R221
  | call_z_a16 (a16 : Word) -- CALL Z,a16, R226
  | call_a16 (a16 : Word) -- CALL a16, R225
  | adc_a_d8 (d8 : Byte) -- ADC A,d8, R137
  | rst_08h -- RST 08h, R230
  | ret_nc -- RET NC, R228
  | pop_de -- POP DE, R205
  | jp_nc_a16 (a16 : Word) -- JP NC,a16, R221
  | illegal (opcode : Byte) -- (illegal), R301
  | call_nc_a16 (a16 : Word) -- CALL NC,a16, R226
  | push_de -- PUSH DE, R204
  | sub_d8 (d8 : Byte) -- SUB d8, R140
  | rst_10h -- RST 10h, R230
  | ret_c -- RET C, R228
  | reti -- RETI, R229
  | jp_c_a16 (a16 : Word) -- JP C,a16, R221
  | call_c_a16 (a16 : Word) -- CALL C,a16, R226
  | sbc_a_d8 (d8 : Byte) -- SBC A,d8, R143
  | rst_18h -- RST 18h, R230
  | ldh_mA8_a (a8 : Byte) -- LDH (a8),A, R192
  | pop_hl -- POP HL, R205
  | ld_mC_a -- LD (C),A, R194
  | push_hl -- PUSH HL, R204
  | and_d8 (d8 : Byte) -- AND d8, R146
  | rst_20h -- RST 20h, R230
  | add_sp_e8 (e8 : Byte) -- ADD SP,e8, R171
  | jp_hl -- JP HL, R222
  | ld_mA16_a (a16 : Word) -- LD (a16),A, R190
  | xor_d8 (d8 : Byte) -- XOR d8, R149
  | rst_28h -- RST 28h, R230
  | ldh_a_mA8 (a8 : Byte) -- LDH A,(a8), R191
  | pop_af -- POP AF, R205
  | ld_a_mC -- LD A,(C), R193
  | di -- DI, R283
  | push_af -- PUSH AF, R204
  | or_d8 (d8 : Byte) -- OR d8, R152
  | rst_30h -- RST 30h, R230
  | ld_hl_sp_e8 (e8 : Byte) -- LD HL,SP+e8, R203
  | ld_sp_hl -- LD SP,HL, R202
  | ld_a_mA16 (a16 : Word) -- LD A,(a16), R189
  | ei -- EI, R284
  | cp_d8 (d8 : Byte) -- CP d8, R155
  | rst_38h -- RST 38h, R230
  | rlc_b -- RLC B, R245
  | rlc_c -- RLC C, R245
  | rlc_d -- RLC D, R245
  | rlc_e -- RLC E, R245
  | rlc_h -- RLC H, R245
  | rlc_l -- RLC L, R245
  | rlc_mHL -- RLC (HL), R246
  | rlc_a -- RLC A, R245
  | rrc_b -- RRC B, R247
  | rrc_c -- RRC C, R247
  | rrc_d -- RRC D, R247
  | rrc_e -- RRC E, R247
  | rrc_h -- RRC H, R247
  | rrc_l -- RRC L, R247
  | rrc_mHL -- RRC (HL), R248
  | rrc_a -- RRC A, R247
  | rl_b -- RL B, R249
  | rl_c -- RL C, R249
  | rl_d -- RL D, R249
  | rl_e -- RL E, R249
  | rl_h -- RL H, R249
  | rl_l -- RL L, R249
  | rl_mHL -- RL (HL), R250
  | rl_a -- RL A, R249
  | rr_b -- RR B, R251
  | rr_c -- RR C, R251
  | rr_d -- RR D, R251
  | rr_e -- RR E, R251
  | rr_h -- RR H, R251
  | rr_l -- RR L, R251
  | rr_mHL -- RR (HL), R252
  | rr_a -- RR A, R251
  | sla_b -- SLA B, R253
  | sla_c -- SLA C, R253
  | sla_d -- SLA D, R253
  | sla_e -- SLA E, R253
  | sla_h -- SLA H, R253
  | sla_l -- SLA L, R253
  | sla_mHL -- SLA (HL), R254
  | sla_a -- SLA A, R253
  | sra_b -- SRA B, R255
  | sra_c -- SRA C, R255
  | sra_d -- SRA D, R255
  | sra_e -- SRA E, R255
  | sra_h -- SRA H, R255
  | sra_l -- SRA L, R255
  | sra_mHL -- SRA (HL), R256
  | sra_a -- SRA A, R255
  | swap_b -- SWAP B, R257
  | swap_c -- SWAP C, R257
  | swap_d -- SWAP D, R257
  | swap_e -- SWAP E, R257
  | swap_h -- SWAP H, R257
  | swap_l -- SWAP L, R257
  | swap_mHL -- SWAP (HL), R258
  | swap_a -- SWAP A, R257
  | srl_b -- SRL B, R259
  | srl_c -- SRL C, R259
  | srl_d -- SRL D, R259
  | srl_e -- SRL E, R259
  | srl_h -- SRL H, R259
  | srl_l -- SRL L, R259
  | srl_mHL -- SRL (HL), R260
  | srl_a -- SRL A, R259
  | bit_0_b -- BIT 0,B, R270
  | bit_0_c -- BIT 0,C, R270
  | bit_0_d -- BIT 0,D, R270
  | bit_0_e -- BIT 0,E, R270
  | bit_0_h -- BIT 0,H, R270
  | bit_0_l -- BIT 0,L, R270
  | bit_0_mHL -- BIT 0,(HL), R271
  | bit_0_a -- BIT 0,A, R270
  | bit_1_b -- BIT 1,B, R270
  | bit_1_c -- BIT 1,C, R270
  | bit_1_d -- BIT 1,D, R270
  | bit_1_e -- BIT 1,E, R270
  | bit_1_h -- BIT 1,H, R270
  | bit_1_l -- BIT 1,L, R270
  | bit_1_mHL -- BIT 1,(HL), R271
  | bit_1_a -- BIT 1,A, R270
  | bit_2_b -- BIT 2,B, R270
  | bit_2_c -- BIT 2,C, R270
  | bit_2_d -- BIT 2,D, R270
  | bit_2_e -- BIT 2,E, R270
  | bit_2_h -- BIT 2,H, R270
  | bit_2_l -- BIT 2,L, R270
  | bit_2_mHL -- BIT 2,(HL), R271
  | bit_2_a -- BIT 2,A, R270
  | bit_3_b -- BIT 3,B, R270
  | bit_3_c -- BIT 3,C, R270
  | bit_3_d -- BIT 3,D, R270
  | bit_3_e -- BIT 3,E, R270
  | bit_3_h -- BIT 3,H, R270
  | bit_3_l -- BIT 3,L, R270
  | bit_3_mHL -- BIT 3,(HL), R271
  | bit_3_a -- BIT 3,A, R270
  | bit_4_b -- BIT 4,B, R270
  | bit_4_c -- BIT 4,C, R270
  | bit_4_d -- BIT 4,D, R270
  | bit_4_e -- BIT 4,E, R270
  | bit_4_h -- BIT 4,H, R270
  | bit_4_l -- BIT 4,L, R270
  | bit_4_mHL -- BIT 4,(HL), R271
  | bit_4_a -- BIT 4,A, R270
  | bit_5_b -- BIT 5,B, R270
  | bit_5_c -- BIT 5,C, R270
  | bit_5_d -- BIT 5,D, R270
  | bit_5_e -- BIT 5,E, R270
  | bit_5_h -- BIT 5,H, R270
  | bit_5_l -- BIT 5,L, R270
  | bit_5_mHL -- BIT 5,(HL), R271
  | bit_5_a -- BIT 5,A, R270
  | bit_6_b -- BIT 6,B, R270
  | bit_6_c -- BIT 6,C, R270
  | bit_6_d -- BIT 6,D, R270
  | bit_6_e -- BIT 6,E, R270
  | bit_6_h -- BIT 6,H, R270
  | bit_6_l -- BIT 6,L, R270
  | bit_6_mHL -- BIT 6,(HL), R271
  | bit_6_a -- BIT 6,A, R270
  | bit_7_b -- BIT 7,B, R270
  | bit_7_c -- BIT 7,C, R270
  | bit_7_d -- BIT 7,D, R270
  | bit_7_e -- BIT 7,E, R270
  | bit_7_h -- BIT 7,H, R270
  | bit_7_l -- BIT 7,L, R270
  | bit_7_mHL -- BIT 7,(HL), R271
  | bit_7_a -- BIT 7,A, R270
  | res_0_b -- RES 0,B, R272
  | res_0_c -- RES 0,C, R272
  | res_0_d -- RES 0,D, R272
  | res_0_e -- RES 0,E, R272
  | res_0_h -- RES 0,H, R272
  | res_0_l -- RES 0,L, R272
  | res_0_mHL -- RES 0,(HL), R273
  | res_0_a -- RES 0,A, R272
  | res_1_b -- RES 1,B, R272
  | res_1_c -- RES 1,C, R272
  | res_1_d -- RES 1,D, R272
  | res_1_e -- RES 1,E, R272
  | res_1_h -- RES 1,H, R272
  | res_1_l -- RES 1,L, R272
  | res_1_mHL -- RES 1,(HL), R273
  | res_1_a -- RES 1,A, R272
  | res_2_b -- RES 2,B, R272
  | res_2_c -- RES 2,C, R272
  | res_2_d -- RES 2,D, R272
  | res_2_e -- RES 2,E, R272
  | res_2_h -- RES 2,H, R272
  | res_2_l -- RES 2,L, R272
  | res_2_mHL -- RES 2,(HL), R273
  | res_2_a -- RES 2,A, R272
  | res_3_b -- RES 3,B, R272
  | res_3_c -- RES 3,C, R272
  | res_3_d -- RES 3,D, R272
  | res_3_e -- RES 3,E, R272
  | res_3_h -- RES 3,H, R272
  | res_3_l -- RES 3,L, R272
  | res_3_mHL -- RES 3,(HL), R273
  | res_3_a -- RES 3,A, R272
  | res_4_b -- RES 4,B, R272
  | res_4_c -- RES 4,C, R272
  | res_4_d -- RES 4,D, R272
  | res_4_e -- RES 4,E, R272
  | res_4_h -- RES 4,H, R272
  | res_4_l -- RES 4,L, R272
  | res_4_mHL -- RES 4,(HL), R273
  | res_4_a -- RES 4,A, R272
  | res_5_b -- RES 5,B, R272
  | res_5_c -- RES 5,C, R272
  | res_5_d -- RES 5,D, R272
  | res_5_e -- RES 5,E, R272
  | res_5_h -- RES 5,H, R272
  | res_5_l -- RES 5,L, R272
  | res_5_mHL -- RES 5,(HL), R273
  | res_5_a -- RES 5,A, R272
  | res_6_b -- RES 6,B, R272
  | res_6_c -- RES 6,C, R272
  | res_6_d -- RES 6,D, R272
  | res_6_e -- RES 6,E, R272
  | res_6_h -- RES 6,H, R272
  | res_6_l -- RES 6,L, R272
  | res_6_mHL -- RES 6,(HL), R273
  | res_6_a -- RES 6,A, R272
  | res_7_b -- RES 7,B, R272
  | res_7_c -- RES 7,C, R272
  | res_7_d -- RES 7,D, R272
  | res_7_e -- RES 7,E, R272
  | res_7_h -- RES 7,H, R272
  | res_7_l -- RES 7,L, R272
  | res_7_mHL -- RES 7,(HL), R273
  | res_7_a -- RES 7,A, R272
  | set_0_b -- SET 0,B, R274
  | set_0_c -- SET 0,C, R274
  | set_0_d -- SET 0,D, R274
  | set_0_e -- SET 0,E, R274
  | set_0_h -- SET 0,H, R274
  | set_0_l -- SET 0,L, R274
  | set_0_mHL -- SET 0,(HL), R275
  | set_0_a -- SET 0,A, R274
  | set_1_b -- SET 1,B, R274
  | set_1_c -- SET 1,C, R274
  | set_1_d -- SET 1,D, R274
  | set_1_e -- SET 1,E, R274
  | set_1_h -- SET 1,H, R274
  | set_1_l -- SET 1,L, R274
  | set_1_mHL -- SET 1,(HL), R275
  | set_1_a -- SET 1,A, R274
  | set_2_b -- SET 2,B, R274
  | set_2_c -- SET 2,C, R274
  | set_2_d -- SET 2,D, R274
  | set_2_e -- SET 2,E, R274
  | set_2_h -- SET 2,H, R274
  | set_2_l -- SET 2,L, R274
  | set_2_mHL -- SET 2,(HL), R275
  | set_2_a -- SET 2,A, R274
  | set_3_b -- SET 3,B, R274
  | set_3_c -- SET 3,C, R274
  | set_3_d -- SET 3,D, R274
  | set_3_e -- SET 3,E, R274
  | set_3_h -- SET 3,H, R274
  | set_3_l -- SET 3,L, R274
  | set_3_mHL -- SET 3,(HL), R275
  | set_3_a -- SET 3,A, R274
  | set_4_b -- SET 4,B, R274
  | set_4_c -- SET 4,C, R274
  | set_4_d -- SET 4,D, R274
  | set_4_e -- SET 4,E, R274
  | set_4_h -- SET 4,H, R274
  | set_4_l -- SET 4,L, R274
  | set_4_mHL -- SET 4,(HL), R275
  | set_4_a -- SET 4,A, R274
  | set_5_b -- SET 5,B, R274
  | set_5_c -- SET 5,C, R274
  | set_5_d -- SET 5,D, R274
  | set_5_e -- SET 5,E, R274
  | set_5_h -- SET 5,H, R274
  | set_5_l -- SET 5,L, R274
  | set_5_mHL -- SET 5,(HL), R275
  | set_5_a -- SET 5,A, R274
  | set_6_b -- SET 6,B, R274
  | set_6_c -- SET 6,C, R274
  | set_6_d -- SET 6,D, R274
  | set_6_e -- SET 6,E, R274
  | set_6_h -- SET 6,H, R274
  | set_6_l -- SET 6,L, R274
  | set_6_mHL -- SET 6,(HL), R275
  | set_6_a -- SET 6,A, R274
  | set_7_b -- SET 7,B, R274
  | set_7_c -- SET 7,C, R274
  | set_7_d -- SET 7,D, R274
  | set_7_e -- SET 7,E, R274
  | set_7_h -- SET 7,H, R274
  | set_7_l -- SET 7,L, R274
  | set_7_mHL -- SET 7,(HL), R275
  | set_7_a -- SET 7,A, R274
  deriving DecidableEq, Repr

end Sys2Proof
end

