-- ==== Sys2Proof/WellFormed.lean ====
section
/-! DEFINITION. Which terms of `Instr` are instructions of the table. Every operand is in range by its type
(30_encoding.md R114), so the only check is on the byte the row `(illegal)` carries. -/

namespace Sys2Proof

/-- The eleven main-table bytes with no mapping (30_encoding.md R101). -/
def illegalOpcodes : List Byte :=
  [0xD3#8, 0xDB#8, 0xDD#8, 0xE3#8, 0xE4#8, 0xEB#8, 0xEC#8, 0xED#8, 0xF4#8, 0xFC#8, 0xFD#8]

/-- An `illegal` term stands for one of the eleven bytes; every other term is well formed. -/
def Instr.wf : Instr → Bool
  | .illegal opcode => decide (opcode ∈ illegalOpcodes)
  | _ => true

/-- A term that stands for a row of the opcode table. -/
abbrev Instr.WellFormed (i : Instr) : Prop := i.wf = true

end Sys2Proof
end

