-- ==== Sys2Proof/Decode.lean ====
section
/-! DEFINITION. The decoder, total on any bytes (30_encoding.md R90 to R106), written from the field tables R92 to
R100, and after it the encoder, written from the byte-by-byte maps R100 and R102. Also the byte-order helpers both use. -/

namespace Sys2Proof

/-! ## Bytes and words -/

/-- {hi, lo}: hi in bits 15..8, lo in bits 7..0 (00_scope.md R7, 10_state.md R23). -/
def wordOf (hi lo : Byte) : Word := hi ++ lo

/-- v[15:8]. -/
def hiByte (v : Word) : Byte := v.extractLsb' 8 8

/-- v[7:0]. -/
def loByte (v : Word) : Byte := v.extractLsb' 0 8

/-! ## Fields of an opcode byte -/

/-- The 2-bit field of a value below 4. -/
def index4 : Nat → Index4
  | 0 => .i0
  | 1 => .i1
  | 2 => .i2
  | _ => .i3

/-- The 3-bit field of a value below 8. -/
def index8 : Nat → Index8
  | 0 => .i0
  | 1 => .i1
  | 2 => .i2
  | 3 => .i3
  | 4 => .i4
  | 5 => .i5
  | 6 => .i6
  | _ => .i7

/-- x = op[7:6] (R92); g = cb[7:6] (R97). -/
def fieldX (op : Byte) : Index4 := index4 (op.toNat / 64)

/-- y = op[5:3] (R92, R97). -/
def fieldY (op : Byte) : Index8 := index8 (op.toNat / 8 % 8)

/-- z = op[2:0] (R92, R97). -/
def fieldZ (op : Byte) : Index8 := index8 (op.toNat % 8)

/-- p = op[5:4] (R92). -/
def fieldP (op : Byte) : Index4 := index4 (op.toNat / 16 % 4)

/-- q = op[3] (R92). -/
def fieldQ (op : Byte) : Bool := op.getLsbD 3

/-- The register an 8-bit operand field selects; value 6 selects the byte at HL, no register (R93). -/
def slotOf : Index8 → Option Reg8
  | .i0 => some .b
  | .i1 => some .c
  | .i2 => some .d
  | .i3 => some .e
  | .i4 => some .h
  | .i5 => some .l
  | .i6 => none
  | .i7 => some .a

/-- rr = rp[p] (R94). -/
def pairOf : Index4 → Pair
  | .i0 => .bc
  | .i1 => .de
  | .i2 => .hl
  | .i3 => .sp

/-- qq = rp2[p] (R94). -/
def stackPairOf : Index4 → StackPair
  | .i0 => .bc
  | .i1 => .de
  | .i2 => .hl
  | .i3 => .af

/-- cc from y[1:0] (R95). -/
def condOf : Index8 → Cond
  | .i0 | .i4 => .nz
  | .i1 | .i5 => .z
  | .i2 | .i6 => .nc
  | .i3 | .i7 => .c

/-- alu[y] (R96). -/
def aluOf : Index8 → AluOp
  | .i0 => .add
  | .i1 => .adc
  | .i2 => .sub
  | .i3 => .sbc
  | .i4 => .and
  | .i5 => .xor
  | .i6 => .or
  | .i7 => .cp

/-- rot[y] (R98). -/
def rotOf : Index8 → RotOp
  | .i0 => .rlc
  | .i1 => .rrc
  | .i2 => .rl
  | .i3 => .rr
  | .i4 => .sla
  | .i5 => .sra
  | .i6 => .swap
  | .i7 => .srl

/-! ## The decoder -/

/-- The length of an instruction, from its first byte alone (R90, R111). -/
def instrLength (b0 : Byte) : Nat :=
  if b0 ∈ [0x01#8, 0x11#8, 0x21#8, 0x31#8, 0x08#8, 0xC2#8, 0xCA#8, 0xD2#8, 0xDA#8, 0xC3#8,
      0xC4#8, 0xCC#8, 0xD4#8, 0xDC#8, 0xCD#8, 0xEA#8, 0xFA#8] then 3
  else if b0 ∈ [0x06#8, 0x0E#8, 0x16#8, 0x1E#8, 0x26#8, 0x2E#8, 0x36#8, 0x3E#8, 0x10#8, 0x18#8, 0x20#8,
      0x28#8, 0x30#8, 0x38#8, 0xC6#8, 0xCE#8, 0xD6#8, 0xDE#8, 0xE6#8, 0xEE#8, 0xF6#8, 0xFE#8, 0xE0#8,
      0xF0#8, 0xE8#8, 0xF8#8, 0xCB#8] then 2
  else 1

/-- The extended table (R97, R98, R102): every byte is defined. -/
def decodeCb (cb : Byte) : Form :=
  match fieldX cb, slotOf (fieldZ cb) with
  | .i0, some r => .rotReg (rotOf (fieldY cb)) r
  | .i0, none => .rotMem (rotOf (fieldY cb))
  | .i1, some r => .bitReg (fieldY cb) r
  | .i1, none => .bitMem (fieldY cb)
  | .i2, some r => .resReg (fieldY cb) r
  | .i2, none => .resMem (fieldY cb)
  | .i3, some r => .setReg (fieldY cb) r
  | .i3, none => .setMem (fieldY cb)

/-- The rows x = 0 of R100. -/
def decodeX0 (op b1 b2 : Byte) : Form :=
  match fieldZ op with
  | .i0 =>
    match fieldY op with
    | .i0 => .nop
    | .i1 => .ldAddrSp (wordOf b2 b1)
    | .i2 => .stop b1
    | .i3 => .jr b1
    | y => .jrCond (condOf y) b1
  | .i1 => if fieldQ op then .addHl (pairOf (fieldP op)) else .ldPairImm (pairOf (fieldP op)) (wordOf b2 b1)
  | .i2 =>
    match fieldY op with
    | .i0 => .ldBcA
    | .i1 => .ldABc
    | .i2 => .ldDeA
    | .i3 => .ldADe
    | .i4 => .ldHlIncA
    | .i5 => .ldAHlInc
    | .i6 => .ldHlDecA
    | .i7 => .ldAHlDec
  | .i3 => if fieldQ op then .decPair (pairOf (fieldP op)) else .incPair (pairOf (fieldP op))
  | .i4 =>
    match slotOf (fieldY op) with
    | some r => .incReg r
    | none => .incMem
  | .i5 =>
    match slotOf (fieldY op) with
    | some r => .decReg r
    | none => .decMem
  | .i6 =>
    match slotOf (fieldY op) with
    | some r => .ldRegImm r b1
    | none => .ldMemImm b1
  | .i7 =>
    match fieldY op with
    | .i0 => .rlca
    | .i1 => .rrca
    | .i2 => .rla
    | .i3 => .rra
    | .i4 => .daa
    | .i5 => .cpl
    | .i6 => .scf
    | .i7 => .ccf

/-- The rows x = 1 of R100: the load grid, with HALT where LD (HL),(HL) would be (R103). -/
def decodeX1 (op : Byte) : Form :=
  match slotOf (fieldY op), slotOf (fieldZ op) with
  | some r, some r' => .ldRegReg r r'
  | some r, none => .ldRegMem r
  | none, some r => .ldMemReg r
  | none, none => .halt

/-- The rows x = 2 of R100: alu[y] A, with the register or (HL) source z selects. -/
def decodeX2 (op : Byte) : Form :=
  match slotOf (fieldZ op) with
  | some r => .alu (aluOf (fieldY op)) (.reg r)
  | none => .alu (aluOf (fieldY op)) .mem

/-- The rows x = 3 of R100, the prefix 0xCB (R102) and the illegal bytes (R101) among them. -/
def decodeX3 (op b1 b2 : Byte) : Form :=
  match fieldZ op with
  | .i0 =>
    match fieldY op with
    | .i4 => .ldhImmA b1
    | .i5 => .addSp b1
    | .i6 => .ldhAImm b1
    | .i7 => .ldHlSp b1
    | y => .retCond (condOf y)
  | .i1 =>
    if fieldQ op then
      match fieldP op with
      | .i0 => .ret
      | .i1 => .reti
      | .i2 => .jpHl
      | .i3 => .ldSpHl
    else .pop (stackPairOf (fieldP op))
  | .i2 =>
    match fieldY op with
    | .i4 => .ldCA
    | .i5 => .ldAddrA (wordOf b2 b1)
    | .i6 => .ldAC
    | .i7 => .ldAAddr (wordOf b2 b1)
    | y => .jpCond (condOf y) (wordOf b2 b1)
  | .i3 =>
    match fieldY op with
    | .i0 => .jp (wordOf b2 b1)
    | .i1 => decodeCb b1
    | .i6 => .di
    | .i7 => .ei
    | _ => .illegal op
  | .i4 =>
    match fieldY op with
    | .i0 | .i1 | .i2 | .i3 => .callCond (condOf (fieldY op)) (wordOf b2 b1)
    | _ => .illegal op
  | .i5 =>
    if fieldQ op then
      match fieldP op with
      | .i0 => .call (wordOf b2 b1)
      | _ => .illegal op
    else .push (stackPairOf (fieldP op))
  | .i6 => .alu (aluOf (fieldY op)) (.imm b1)
  | .i7 => .rst (fieldY op)

/-- The main table by x (R100). -/
def decodeForm (b0 b1 b2 : Byte) : Form :=
  match fieldX b0 with
  | .i0 => decodeX0 b0 b1 b2
  | .i1 => decodeX1 b0
  | .i2 => decodeX2 b0
  | .i3 => decodeX3 b0 b1 b2

/-- The `Instr` that stands for a form: the table's row for each operation and operand. -/
def Form.toInstr : Form → Instr
  | .nop => .nop
  | .ldPairImm .bc d16 => .ld_bc_d16 d16
  | .ldPairImm .de d16 => .ld_de_d16 d16
  | .ldPairImm .hl d16 => .ld_hl_d16 d16
  | .ldPairImm .sp d16 => .ld_sp_d16 d16
  | .ldBcA => .ld_mBC_a
  | .incPair .bc => .inc_bc
  | .incPair .de => .inc_de
  | .incPair .hl => .inc_hl
  | .incPair .sp => .inc_sp
  | .incReg .b => .inc_b
  | .incReg .c => .inc_c
  | .incReg .d => .inc_d
  | .incReg .e => .inc_e
  | .incReg .h => .inc_h
  | .incReg .l => .inc_l
  | .incReg .a => .inc_a
  | .decReg .b => .dec_b
  | .decReg .c => .dec_c
  | .decReg .d => .dec_d
  | .decReg .e => .dec_e
  | .decReg .h => .dec_h
  | .decReg .l => .dec_l
  | .decReg .a => .dec_a
  | .ldRegImm .b d8 => .ld_b_d8 d8
  | .ldRegImm .c d8 => .ld_c_d8 d8
  | .ldRegImm .d d8 => .ld_d_d8 d8
  | .ldRegImm .e d8 => .ld_e_d8 d8
  | .ldRegImm .h d8 => .ld_h_d8 d8
  | .ldRegImm .l d8 => .ld_l_d8 d8
  | .ldRegImm .a d8 => .ld_a_d8 d8
  | .rlca => .rlca
  | .ldAddrSp a16 => .ld_mA16_sp a16
  | .addHl .bc => .add_hl_bc
  | .addHl .de => .add_hl_de
  | .addHl .hl => .add_hl_hl
  | .addHl .sp => .add_hl_sp
  | .ldABc => .ld_a_mBC
  | .decPair .bc => .dec_bc
  | .decPair .de => .dec_de
  | .decPair .hl => .dec_hl
  | .decPair .sp => .dec_sp
  | .rrca => .rrca
  | .stop b1 => .stop b1
  | .ldDeA => .ld_mDE_a
  | .rla => .rla
  | .jr e8 => .jr_e8 e8
  | .ldADe => .ld_a_mDE
  | .rra => .rra
  | .jrCond .nz e8 => .jr_nz_e8 e8
  | .jrCond .z e8 => .jr_z_e8 e8
  | .jrCond .nc e8 => .jr_nc_e8 e8
  | .jrCond .c e8 => .jr_c_e8 e8
  | .ldHlIncA => .ld_mHLinc_a
  | .daa => .daa
  | .ldAHlInc => .ld_a_mHLinc
  | .cpl => .cpl
  | .ldHlDecA => .ld_mHLdec_a
  | .incMem => .inc_mHL
  | .decMem => .dec_mHL
  | .ldMemImm d8 => .ld_mHL_d8 d8
  | .scf => .scf
  | .ldAHlDec => .ld_a_mHLdec
  | .ccf => .ccf
  | .ldRegReg .b .b => .ld_b_b
  | .ldRegReg .b .c => .ld_b_c
  | .ldRegReg .b .d => .ld_b_d
  | .ldRegReg .b .e => .ld_b_e
  | .ldRegReg .b .h => .ld_b_h
  | .ldRegReg .b .l => .ld_b_l
  | .ldRegReg .b .a => .ld_b_a
  | .ldRegReg .c .b => .ld_c_b
  | .ldRegReg .c .c => .ld_c_c
  | .ldRegReg .c .d => .ld_c_d
  | .ldRegReg .c .e => .ld_c_e
  | .ldRegReg .c .h => .ld_c_h
  | .ldRegReg .c .l => .ld_c_l
  | .ldRegReg .c .a => .ld_c_a
  | .ldRegReg .d .b => .ld_d_b
  | .ldRegReg .d .c => .ld_d_c
  | .ldRegReg .d .d => .ld_d_d
  | .ldRegReg .d .e => .ld_d_e
  | .ldRegReg .d .h => .ld_d_h
  | .ldRegReg .d .l => .ld_d_l
  | .ldRegReg .d .a => .ld_d_a
  | .ldRegReg .e .b => .ld_e_b
  | .ldRegReg .e .c => .ld_e_c
  | .ldRegReg .e .d => .ld_e_d
  | .ldRegReg .e .e => .ld_e_e
  | .ldRegReg .e .h => .ld_e_h
  | .ldRegReg .e .l => .ld_e_l
  | .ldRegReg .e .a => .ld_e_a
  | .ldRegReg .h .b => .ld_h_b
  | .ldRegReg .h .c => .ld_h_c
  | .ldRegReg .h .d => .ld_h_d
  | .ldRegReg .h .e => .ld_h_e
  | .ldRegReg .h .h => .ld_h_h
  | .ldRegReg .h .l => .ld_h_l
  | .ldRegReg .h .a => .ld_h_a
  | .ldRegReg .l .b => .ld_l_b
  | .ldRegReg .l .c => .ld_l_c
  | .ldRegReg .l .d => .ld_l_d
  | .ldRegReg .l .e => .ld_l_e
  | .ldRegReg .l .h => .ld_l_h
  | .ldRegReg .l .l => .ld_l_l
  | .ldRegReg .l .a => .ld_l_a
  | .ldRegReg .a .b => .ld_a_b
  | .ldRegReg .a .c => .ld_a_c
  | .ldRegReg .a .d => .ld_a_d
  | .ldRegReg .a .e => .ld_a_e
  | .ldRegReg .a .h => .ld_a_h
  | .ldRegReg .a .l => .ld_a_l
  | .ldRegReg .a .a => .ld_a_a
  | .ldRegMem .b => .ld_b_mHL
  | .ldRegMem .c => .ld_c_mHL
  | .ldRegMem .d => .ld_d_mHL
  | .ldRegMem .e => .ld_e_mHL
  | .ldRegMem .h => .ld_h_mHL
  | .ldRegMem .l => .ld_l_mHL
  | .ldRegMem .a => .ld_a_mHL
  | .ldMemReg .b => .ld_mHL_b
  | .ldMemReg .c => .ld_mHL_c
  | .ldMemReg .d => .ld_mHL_d
  | .ldMemReg .e => .ld_mHL_e
  | .ldMemReg .h => .ld_mHL_h
  | .ldMemReg .l => .ld_mHL_l
  | .ldMemReg .a => .ld_mHL_a
  | .halt => .halt
  | .alu .add (.reg .b) => .add_a_b
  | .alu .add (.reg .c) => .add_a_c
  | .alu .add (.reg .d) => .add_a_d
  | .alu .add (.reg .e) => .add_a_e
  | .alu .add (.reg .h) => .add_a_h
  | .alu .add (.reg .l) => .add_a_l
  | .alu .add .mem => .add_a_mHL
  | .alu .add (.reg .a) => .add_a_a
  | .alu .adc (.reg .b) => .adc_a_b
  | .alu .adc (.reg .c) => .adc_a_c
  | .alu .adc (.reg .d) => .adc_a_d
  | .alu .adc (.reg .e) => .adc_a_e
  | .alu .adc (.reg .h) => .adc_a_h
  | .alu .adc (.reg .l) => .adc_a_l
  | .alu .adc .mem => .adc_a_mHL
  | .alu .adc (.reg .a) => .adc_a_a
  | .alu .sub (.reg .b) => .sub_b
  | .alu .sub (.reg .c) => .sub_c
  | .alu .sub (.reg .d) => .sub_d
  | .alu .sub (.reg .e) => .sub_e
  | .alu .sub (.reg .h) => .sub_h
  | .alu .sub (.reg .l) => .sub_l
  | .alu .sub .mem => .sub_mHL
  | .alu .sub (.reg .a) => .sub_a
  | .alu .sbc (.reg .b) => .sbc_a_b
  | .alu .sbc (.reg .c) => .sbc_a_c
  | .alu .sbc (.reg .d) => .sbc_a_d
  | .alu .sbc (.reg .e) => .sbc_a_e
  | .alu .sbc (.reg .h) => .sbc_a_h
  | .alu .sbc (.reg .l) => .sbc_a_l
  | .alu .sbc .mem => .sbc_a_mHL
  | .alu .sbc (.reg .a) => .sbc_a_a
  | .alu .and (.reg .b) => .and_b
  | .alu .and (.reg .c) => .and_c
  | .alu .and (.reg .d) => .and_d
  | .alu .and (.reg .e) => .and_e
  | .alu .and (.reg .h) => .and_h
  | .alu .and (.reg .l) => .and_l
  | .alu .and .mem => .and_mHL
  | .alu .and (.reg .a) => .and_a
  | .alu .xor (.reg .b) => .xor_b
  | .alu .xor (.reg .c) => .xor_c
  | .alu .xor (.reg .d) => .xor_d
  | .alu .xor (.reg .e) => .xor_e
  | .alu .xor (.reg .h) => .xor_h
  | .alu .xor (.reg .l) => .xor_l
  | .alu .xor .mem => .xor_mHL
  | .alu .xor (.reg .a) => .xor_a
  | .alu .or (.reg .b) => .or_b
  | .alu .or (.reg .c) => .or_c
  | .alu .or (.reg .d) => .or_d
  | .alu .or (.reg .e) => .or_e
  | .alu .or (.reg .h) => .or_h
  | .alu .or (.reg .l) => .or_l
  | .alu .or .mem => .or_mHL
  | .alu .or (.reg .a) => .or_a
  | .alu .cp (.reg .b) => .cp_b
  | .alu .cp (.reg .c) => .cp_c
  | .alu .cp (.reg .d) => .cp_d
  | .alu .cp (.reg .e) => .cp_e
  | .alu .cp (.reg .h) => .cp_h
  | .alu .cp (.reg .l) => .cp_l
  | .alu .cp .mem => .cp_mHL
  | .alu .cp (.reg .a) => .cp_a
  | .alu .add (.imm d8) => .add_a_d8 d8
  | .alu .adc (.imm d8) => .adc_a_d8 d8
  | .alu .sub (.imm d8) => .sub_d8 d8
  | .alu .sbc (.imm d8) => .sbc_a_d8 d8
  | .alu .and (.imm d8) => .and_d8 d8
  | .alu .xor (.imm d8) => .xor_d8 d8
  | .alu .or (.imm d8) => .or_d8 d8
  | .alu .cp (.imm d8) => .cp_d8 d8
  | .retCond .nz => .ret_nz
  | .retCond .z => .ret_z
  | .retCond .nc => .ret_nc
  | .retCond .c => .ret_c
  | .pop .bc => .pop_bc
  | .pop .de => .pop_de
  | .pop .hl => .pop_hl
  | .pop .af => .pop_af
  | .jpCond .nz a16 => .jp_nz_a16 a16
  | .jpCond .z a16 => .jp_z_a16 a16
  | .jpCond .nc a16 => .jp_nc_a16 a16
  | .jpCond .c a16 => .jp_c_a16 a16
  | .jp a16 => .jp_a16 a16
  | .callCond .nz a16 => .call_nz_a16 a16
  | .callCond .z a16 => .call_z_a16 a16
  | .callCond .nc a16 => .call_nc_a16 a16
  | .callCond .c a16 => .call_c_a16 a16
  | .push .bc => .push_bc
  | .push .de => .push_de
  | .push .hl => .push_hl
  | .push .af => .push_af
  | .rst .i0 => .rst_00h
  | .rst .i1 => .rst_08h
  | .rst .i2 => .rst_10h
  | .rst .i3 => .rst_18h
  | .rst .i4 => .rst_20h
  | .rst .i5 => .rst_28h
  | .rst .i6 => .rst_30h
  | .rst .i7 => .rst_38h
  | .ret => .ret
  | .call a16 => .call_a16 a16
  | .illegal opcode => .illegal opcode
  | .reti => .reti
  | .ldhImmA a8 => .ldh_mA8_a a8
  | .ldCA => .ld_mC_a
  | .addSp e8 => .add_sp_e8 e8
  | .jpHl => .jp_hl
  | .ldAddrA a16 => .ld_mA16_a a16
  | .ldhAImm a8 => .ldh_a_mA8 a8
  | .ldAC => .ld_a_mC
  | .di => .di
  | .ldHlSp e8 => .ld_hl_sp_e8 e8
  | .ldSpHl => .ld_sp_hl
  | .ldAAddr a16 => .ld_a_mA16 a16
  | .ei => .ei
  | .rotReg .rlc .b => .rlc_b
  | .rotReg .rlc .c => .rlc_c
  | .rotReg .rlc .d => .rlc_d
  | .rotReg .rlc .e => .rlc_e
  | .rotReg .rlc .h => .rlc_h
  | .rotReg .rlc .l => .rlc_l
  | .rotReg .rlc .a => .rlc_a
  | .rotReg .rrc .b => .rrc_b
  | .rotReg .rrc .c => .rrc_c
  | .rotReg .rrc .d => .rrc_d
  | .rotReg .rrc .e => .rrc_e
  | .rotReg .rrc .h => .rrc_h
  | .rotReg .rrc .l => .rrc_l
  | .rotReg .rrc .a => .rrc_a
  | .rotReg .rl .b => .rl_b
  | .rotReg .rl .c => .rl_c
  | .rotReg .rl .d => .rl_d
  | .rotReg .rl .e => .rl_e
  | .rotReg .rl .h => .rl_h
  | .rotReg .rl .l => .rl_l
  | .rotReg .rl .a => .rl_a
  | .rotReg .rr .b => .rr_b
  | .rotReg .rr .c => .rr_c
  | .rotReg .rr .d => .rr_d
  | .rotReg .rr .e => .rr_e
  | .rotReg .rr .h => .rr_h
  | .rotReg .rr .l => .rr_l
  | .rotReg .rr .a => .rr_a
  | .rotReg .sla .b => .sla_b
  | .rotReg .sla .c => .sla_c
  | .rotReg .sla .d => .sla_d
  | .rotReg .sla .e => .sla_e
  | .rotReg .sla .h => .sla_h
  | .rotReg .sla .l => .sla_l
  | .rotReg .sla .a => .sla_a
  | .rotReg .sra .b => .sra_b
  | .rotReg .sra .c => .sra_c
  | .rotReg .sra .d => .sra_d
  | .rotReg .sra .e => .sra_e
  | .rotReg .sra .h => .sra_h
  | .rotReg .sra .l => .sra_l
  | .rotReg .sra .a => .sra_a
  | .rotReg .swap .b => .swap_b
  | .rotReg .swap .c => .swap_c
  | .rotReg .swap .d => .swap_d
  | .rotReg .swap .e => .swap_e
  | .rotReg .swap .h => .swap_h
  | .rotReg .swap .l => .swap_l
  | .rotReg .swap .a => .swap_a
  | .rotReg .srl .b => .srl_b
  | .rotReg .srl .c => .srl_c
  | .rotReg .srl .d => .srl_d
  | .rotReg .srl .e => .srl_e
  | .rotReg .srl .h => .srl_h
  | .rotReg .srl .l => .srl_l
  | .rotReg .srl .a => .srl_a
  | .rotMem .rlc => .rlc_mHL
  | .rotMem .rrc => .rrc_mHL
  | .rotMem .rl => .rl_mHL
  | .rotMem .rr => .rr_mHL
  | .rotMem .sla => .sla_mHL
  | .rotMem .sra => .sra_mHL
  | .rotMem .swap => .swap_mHL
  | .rotMem .srl => .srl_mHL
  | .bitReg .i0 .b => .bit_0_b
  | .bitReg .i0 .c => .bit_0_c
  | .bitReg .i0 .d => .bit_0_d
  | .bitReg .i0 .e => .bit_0_e
  | .bitReg .i0 .h => .bit_0_h
  | .bitReg .i0 .l => .bit_0_l
  | .bitReg .i0 .a => .bit_0_a
  | .bitReg .i1 .b => .bit_1_b
  | .bitReg .i1 .c => .bit_1_c
  | .bitReg .i1 .d => .bit_1_d
  | .bitReg .i1 .e => .bit_1_e
  | .bitReg .i1 .h => .bit_1_h
  | .bitReg .i1 .l => .bit_1_l
  | .bitReg .i1 .a => .bit_1_a
  | .bitReg .i2 .b => .bit_2_b
  | .bitReg .i2 .c => .bit_2_c
  | .bitReg .i2 .d => .bit_2_d
  | .bitReg .i2 .e => .bit_2_e
  | .bitReg .i2 .h => .bit_2_h
  | .bitReg .i2 .l => .bit_2_l
  | .bitReg .i2 .a => .bit_2_a
  | .bitReg .i3 .b => .bit_3_b
  | .bitReg .i3 .c => .bit_3_c
  | .bitReg .i3 .d => .bit_3_d
  | .bitReg .i3 .e => .bit_3_e
  | .bitReg .i3 .h => .bit_3_h
  | .bitReg .i3 .l => .bit_3_l
  | .bitReg .i3 .a => .bit_3_a
  | .bitReg .i4 .b => .bit_4_b
  | .bitReg .i4 .c => .bit_4_c
  | .bitReg .i4 .d => .bit_4_d
  | .bitReg .i4 .e => .bit_4_e
  | .bitReg .i4 .h => .bit_4_h
  | .bitReg .i4 .l => .bit_4_l
  | .bitReg .i4 .a => .bit_4_a
  | .bitReg .i5 .b => .bit_5_b
  | .bitReg .i5 .c => .bit_5_c
  | .bitReg .i5 .d => .bit_5_d
  | .bitReg .i5 .e => .bit_5_e
  | .bitReg .i5 .h => .bit_5_h
  | .bitReg .i5 .l => .bit_5_l
  | .bitReg .i5 .a => .bit_5_a
  | .bitReg .i6 .b => .bit_6_b
  | .bitReg .i6 .c => .bit_6_c
  | .bitReg .i6 .d => .bit_6_d
  | .bitReg .i6 .e => .bit_6_e
  | .bitReg .i6 .h => .bit_6_h
  | .bitReg .i6 .l => .bit_6_l
  | .bitReg .i6 .a => .bit_6_a
  | .bitReg .i7 .b => .bit_7_b
  | .bitReg .i7 .c => .bit_7_c
  | .bitReg .i7 .d => .bit_7_d
  | .bitReg .i7 .e => .bit_7_e
  | .bitReg .i7 .h => .bit_7_h
  | .bitReg .i7 .l => .bit_7_l
  | .bitReg .i7 .a => .bit_7_a
  | .bitMem .i0 => .bit_0_mHL
  | .bitMem .i1 => .bit_1_mHL
  | .bitMem .i2 => .bit_2_mHL
  | .bitMem .i3 => .bit_3_mHL
  | .bitMem .i4 => .bit_4_mHL
  | .bitMem .i5 => .bit_5_mHL
  | .bitMem .i6 => .bit_6_mHL
  | .bitMem .i7 => .bit_7_mHL
  | .resReg .i0 .b => .res_0_b
  | .resReg .i0 .c => .res_0_c
  | .resReg .i0 .d => .res_0_d
  | .resReg .i0 .e => .res_0_e
  | .resReg .i0 .h => .res_0_h
  | .resReg .i0 .l => .res_0_l
  | .resReg .i0 .a => .res_0_a
  | .resReg .i1 .b => .res_1_b
  | .resReg .i1 .c => .res_1_c
  | .resReg .i1 .d => .res_1_d
  | .resReg .i1 .e => .res_1_e
  | .resReg .i1 .h => .res_1_h
  | .resReg .i1 .l => .res_1_l
  | .resReg .i1 .a => .res_1_a
  | .resReg .i2 .b => .res_2_b
  | .resReg .i2 .c => .res_2_c
  | .resReg .i2 .d => .res_2_d
  | .resReg .i2 .e => .res_2_e
  | .resReg .i2 .h => .res_2_h
  | .resReg .i2 .l => .res_2_l
  | .resReg .i2 .a => .res_2_a
  | .resReg .i3 .b => .res_3_b
  | .resReg .i3 .c => .res_3_c
  | .resReg .i3 .d => .res_3_d
  | .resReg .i3 .e => .res_3_e
  | .resReg .i3 .h => .res_3_h
  | .resReg .i3 .l => .res_3_l
  | .resReg .i3 .a => .res_3_a
  | .resReg .i4 .b => .res_4_b
  | .resReg .i4 .c => .res_4_c
  | .resReg .i4 .d => .res_4_d
  | .resReg .i4 .e => .res_4_e
  | .resReg .i4 .h => .res_4_h
  | .resReg .i4 .l => .res_4_l
  | .resReg .i4 .a => .res_4_a
  | .resReg .i5 .b => .res_5_b
  | .resReg .i5 .c => .res_5_c
  | .resReg .i5 .d => .res_5_d
  | .resReg .i5 .e => .res_5_e
  | .resReg .i5 .h => .res_5_h
  | .resReg .i5 .l => .res_5_l
  | .resReg .i5 .a => .res_5_a
  | .resReg .i6 .b => .res_6_b
  | .resReg .i6 .c => .res_6_c
  | .resReg .i6 .d => .res_6_d
  | .resReg .i6 .e => .res_6_e
  | .resReg .i6 .h => .res_6_h
  | .resReg .i6 .l => .res_6_l
  | .resReg .i6 .a => .res_6_a
  | .resReg .i7 .b => .res_7_b
  | .resReg .i7 .c => .res_7_c
  | .resReg .i7 .d => .res_7_d
  | .resReg .i7 .e => .res_7_e
  | .resReg .i7 .h => .res_7_h
  | .resReg .i7 .l => .res_7_l
  | .resReg .i7 .a => .res_7_a
  | .resMem .i0 => .res_0_mHL
  | .resMem .i1 => .res_1_mHL
  | .resMem .i2 => .res_2_mHL
  | .resMem .i3 => .res_3_mHL
  | .resMem .i4 => .res_4_mHL
  | .resMem .i5 => .res_5_mHL
  | .resMem .i6 => .res_6_mHL
  | .resMem .i7 => .res_7_mHL
  | .setReg .i0 .b => .set_0_b
  | .setReg .i0 .c => .set_0_c
  | .setReg .i0 .d => .set_0_d
  | .setReg .i0 .e => .set_0_e
  | .setReg .i0 .h => .set_0_h
  | .setReg .i0 .l => .set_0_l
  | .setReg .i0 .a => .set_0_a
  | .setReg .i1 .b => .set_1_b
  | .setReg .i1 .c => .set_1_c
  | .setReg .i1 .d => .set_1_d
  | .setReg .i1 .e => .set_1_e
  | .setReg .i1 .h => .set_1_h
  | .setReg .i1 .l => .set_1_l
  | .setReg .i1 .a => .set_1_a
  | .setReg .i2 .b => .set_2_b
  | .setReg .i2 .c => .set_2_c
  | .setReg .i2 .d => .set_2_d
  | .setReg .i2 .e => .set_2_e
  | .setReg .i2 .h => .set_2_h
  | .setReg .i2 .l => .set_2_l
  | .setReg .i2 .a => .set_2_a
  | .setReg .i3 .b => .set_3_b
  | .setReg .i3 .c => .set_3_c
  | .setReg .i3 .d => .set_3_d
  | .setReg .i3 .e => .set_3_e
  | .setReg .i3 .h => .set_3_h
  | .setReg .i3 .l => .set_3_l
  | .setReg .i3 .a => .set_3_a
  | .setReg .i4 .b => .set_4_b
  | .setReg .i4 .c => .set_4_c
  | .setReg .i4 .d => .set_4_d
  | .setReg .i4 .e => .set_4_e
  | .setReg .i4 .h => .set_4_h
  | .setReg .i4 .l => .set_4_l
  | .setReg .i4 .a => .set_4_a
  | .setReg .i5 .b => .set_5_b
  | .setReg .i5 .c => .set_5_c
  | .setReg .i5 .d => .set_5_d
  | .setReg .i5 .e => .set_5_e
  | .setReg .i5 .h => .set_5_h
  | .setReg .i5 .l => .set_5_l
  | .setReg .i5 .a => .set_5_a
  | .setReg .i6 .b => .set_6_b
  | .setReg .i6 .c => .set_6_c
  | .setReg .i6 .d => .set_6_d
  | .setReg .i6 .e => .set_6_e
  | .setReg .i6 .h => .set_6_h
  | .setReg .i6 .l => .set_6_l
  | .setReg .i6 .a => .set_6_a
  | .setReg .i7 .b => .set_7_b
  | .setReg .i7 .c => .set_7_c
  | .setReg .i7 .d => .set_7_d
  | .setReg .i7 .e => .set_7_e
  | .setReg .i7 .h => .set_7_h
  | .setReg .i7 .l => .set_7_l
  | .setReg .i7 .a => .set_7_a
  | .setMem .i0 => .set_0_mHL
  | .setMem .i1 => .set_1_mHL
  | .setMem .i2 => .set_2_mHL
  | .setMem .i3 => .set_3_mHL
  | .setMem .i4 => .set_4_mHL
  | .setMem .i5 => .set_5_mHL
  | .setMem .i6 => .set_6_mHL
  | .setMem .i7 => .set_7_mHL

/-- The instruction whose bytes are b0, b1 and b2; bytes past its length play no part (R105). The error value
UnknownOpcode of R101 is the row `illegal` with the byte it carries (log 5). -/
def decodeBytes (b0 b1 b2 : Byte) : Instr := (decodeForm b0 b1 b2).toInstr

/-- Why a list of bytes is no instruction: it ends before the instruction does. A fetch from memory never
ends early (20_memory.md R63). -/
inductive DecodeError where
  | truncated
  deriving DecidableEq, Repr

/-- The decoder on a list of bytes: the instruction at its head and the bytes after it. -/
def decode : List Byte → Except DecodeError (Instr × List Byte)
  | [] => .error .truncated
  | b0 :: rest =>
    match instrLength b0, rest with
    | 1, rest => .ok (decodeBytes b0 0#8 0#8, rest)
    | 2, b1 :: rest => .ok (decodeBytes b0 b1 0#8, rest)
    | 3, b1 :: b2 :: rest => .ok (decodeBytes b0 b1 b2, rest)
    | _, _ => .error .truncated

/-- The bytes, as the hardware stores them, of an instruction that spec/opcode_table.json numbers as `w` with `nbits`
bits. A CB row is the number 0xCB·256 + cb (R91), its first byte in bits 15..8; every other row is its opcode byte, and
an operand's bits count on from it, all bits above `nbits` zero (log 7). -/
def tableBytes (nbits w : Nat) : List Byte :=
  let v := w % 2 ^ nbits
  if nbits = 16 ∧ v / 0x100 % 0x100 = 0xCB then [0xCB#8, BitVec.ofNat 8 v, 0#8]
  else [BitVec.ofNat 8 v, BitVec.ofNat 8 (v / 0x100), BitVec.ofNat 8 (v / 0x10000)]

/-- What the decoder reads from an instruction numbered as spec/opcode_table.json numbers it. -/
def decodeTableWord (nbits w : Nat) : Option Instr :=
  match decode (tableBytes nbits w) with
  | .ok (i, _) => some i
  | .error _ => none

/-! ## The encoder -/

/-- The bytes of an instruction, written from the byte-by-byte maps of R100 and R102 and the formats of R91.
For `illegal` it is the byte the row carries. -/
def encode : Instr → List Byte
  | .nop => [0x00#8]
  | .ld_bc_d16 d16 => [0x01#8, loByte d16, hiByte d16]
  | .ld_mBC_a => [0x02#8]
  | .inc_bc => [0x03#8]
  | .inc_b => [0x04#8]
  | .dec_b => [0x05#8]
  | .ld_b_d8 d8 => [0x06#8, d8]
  | .rlca => [0x07#8]
  | .ld_mA16_sp a16 => [0x08#8, loByte a16, hiByte a16]
  | .add_hl_bc => [0x09#8]
  | .ld_a_mBC => [0x0A#8]
  | .dec_bc => [0x0B#8]
  | .inc_c => [0x0C#8]
  | .dec_c => [0x0D#8]
  | .ld_c_d8 d8 => [0x0E#8, d8]
  | .rrca => [0x0F#8]
  | .stop b1 => [0x10#8, b1]
  | .ld_de_d16 d16 => [0x11#8, loByte d16, hiByte d16]
  | .ld_mDE_a => [0x12#8]
  | .inc_de => [0x13#8]
  | .inc_d => [0x14#8]
  | .dec_d => [0x15#8]
  | .ld_d_d8 d8 => [0x16#8, d8]
  | .rla => [0x17#8]
  | .jr_e8 e8 => [0x18#8, e8]
  | .add_hl_de => [0x19#8]
  | .ld_a_mDE => [0x1A#8]
  | .dec_de => [0x1B#8]
  | .inc_e => [0x1C#8]
  | .dec_e => [0x1D#8]
  | .ld_e_d8 d8 => [0x1E#8, d8]
  | .rra => [0x1F#8]
  | .jr_nz_e8 e8 => [0x20#8, e8]
  | .ld_hl_d16 d16 => [0x21#8, loByte d16, hiByte d16]
  | .ld_mHLinc_a => [0x22#8]
  | .inc_hl => [0x23#8]
  | .inc_h => [0x24#8]
  | .dec_h => [0x25#8]
  | .ld_h_d8 d8 => [0x26#8, d8]
  | .daa => [0x27#8]
  | .jr_z_e8 e8 => [0x28#8, e8]
  | .add_hl_hl => [0x29#8]
  | .ld_a_mHLinc => [0x2A#8]
  | .dec_hl => [0x2B#8]
  | .inc_l => [0x2C#8]
  | .dec_l => [0x2D#8]
  | .ld_l_d8 d8 => [0x2E#8, d8]
  | .cpl => [0x2F#8]
  | .jr_nc_e8 e8 => [0x30#8, e8]
  | .ld_sp_d16 d16 => [0x31#8, loByte d16, hiByte d16]
  | .ld_mHLdec_a => [0x32#8]
  | .inc_sp => [0x33#8]
  | .inc_mHL => [0x34#8]
  | .dec_mHL => [0x35#8]
  | .ld_mHL_d8 d8 => [0x36#8, d8]
  | .scf => [0x37#8]
  | .jr_c_e8 e8 => [0x38#8, e8]
  | .add_hl_sp => [0x39#8]
  | .ld_a_mHLdec => [0x3A#8]
  | .dec_sp => [0x3B#8]
  | .inc_a => [0x3C#8]
  | .dec_a => [0x3D#8]
  | .ld_a_d8 d8 => [0x3E#8, d8]
  | .ccf => [0x3F#8]
  | .ld_b_b => [0x40#8]
  | .ld_b_c => [0x41#8]
  | .ld_b_d => [0x42#8]
  | .ld_b_e => [0x43#8]
  | .ld_b_h => [0x44#8]
  | .ld_b_l => [0x45#8]
  | .ld_b_mHL => [0x46#8]
  | .ld_b_a => [0x47#8]
  | .ld_c_b => [0x48#8]
  | .ld_c_c => [0x49#8]
  | .ld_c_d => [0x4A#8]
  | .ld_c_e => [0x4B#8]
  | .ld_c_h => [0x4C#8]
  | .ld_c_l => [0x4D#8]
  | .ld_c_mHL => [0x4E#8]
  | .ld_c_a => [0x4F#8]
  | .ld_d_b => [0x50#8]
  | .ld_d_c => [0x51#8]
  | .ld_d_d => [0x52#8]
  | .ld_d_e => [0x53#8]
  | .ld_d_h => [0x54#8]
  | .ld_d_l => [0x55#8]
  | .ld_d_mHL => [0x56#8]
  | .ld_d_a => [0x57#8]
  | .ld_e_b => [0x58#8]
  | .ld_e_c => [0x59#8]
  | .ld_e_d => [0x5A#8]
  | .ld_e_e => [0x5B#8]
  | .ld_e_h => [0x5C#8]
  | .ld_e_l => [0x5D#8]
  | .ld_e_mHL => [0x5E#8]
  | .ld_e_a => [0x5F#8]
  | .ld_h_b => [0x60#8]
  | .ld_h_c => [0x61#8]
  | .ld_h_d => [0x62#8]
  | .ld_h_e => [0x63#8]
  | .ld_h_h => [0x64#8]
  | .ld_h_l => [0x65#8]
  | .ld_h_mHL => [0x66#8]
  | .ld_h_a => [0x67#8]
  | .ld_l_b => [0x68#8]
  | .ld_l_c => [0x69#8]
  | .ld_l_d => [0x6A#8]
  | .ld_l_e => [0x6B#8]
  | .ld_l_h => [0x6C#8]
  | .ld_l_l => [0x6D#8]
  | .ld_l_mHL => [0x6E#8]
  | .ld_l_a => [0x6F#8]
  | .ld_mHL_b => [0x70#8]
  | .ld_mHL_c => [0x71#8]
  | .ld_mHL_d => [0x72#8]
  | .ld_mHL_e => [0x73#8]
  | .ld_mHL_h => [0x74#8]
  | .ld_mHL_l => [0x75#8]
  | .halt => [0x76#8]
  | .ld_mHL_a => [0x77#8]
  | .ld_a_b => [0x78#8]
  | .ld_a_c => [0x79#8]
  | .ld_a_d => [0x7A#8]
  | .ld_a_e => [0x7B#8]
  | .ld_a_h => [0x7C#8]
  | .ld_a_l => [0x7D#8]
  | .ld_a_mHL => [0x7E#8]
  | .ld_a_a => [0x7F#8]
  | .add_a_b => [0x80#8]
  | .add_a_c => [0x81#8]
  | .add_a_d => [0x82#8]
  | .add_a_e => [0x83#8]
  | .add_a_h => [0x84#8]
  | .add_a_l => [0x85#8]
  | .add_a_mHL => [0x86#8]
  | .add_a_a => [0x87#8]
  | .adc_a_b => [0x88#8]
  | .adc_a_c => [0x89#8]
  | .adc_a_d => [0x8A#8]
  | .adc_a_e => [0x8B#8]
  | .adc_a_h => [0x8C#8]
  | .adc_a_l => [0x8D#8]
  | .adc_a_mHL => [0x8E#8]
  | .adc_a_a => [0x8F#8]
  | .sub_b => [0x90#8]
  | .sub_c => [0x91#8]
  | .sub_d => [0x92#8]
  | .sub_e => [0x93#8]
  | .sub_h => [0x94#8]
  | .sub_l => [0x95#8]
  | .sub_mHL => [0x96#8]
  | .sub_a => [0x97#8]
  | .sbc_a_b => [0x98#8]
  | .sbc_a_c => [0x99#8]
  | .sbc_a_d => [0x9A#8]
  | .sbc_a_e => [0x9B#8]
  | .sbc_a_h => [0x9C#8]
  | .sbc_a_l => [0x9D#8]
  | .sbc_a_mHL => [0x9E#8]
  | .sbc_a_a => [0x9F#8]
  | .and_b => [0xA0#8]
  | .and_c => [0xA1#8]
  | .and_d => [0xA2#8]
  | .and_e => [0xA3#8]
  | .and_h => [0xA4#8]
  | .and_l => [0xA5#8]
  | .and_mHL => [0xA6#8]
  | .and_a => [0xA7#8]
  | .xor_b => [0xA8#8]
  | .xor_c => [0xA9#8]
  | .xor_d => [0xAA#8]
  | .xor_e => [0xAB#8]
  | .xor_h => [0xAC#8]
  | .xor_l => [0xAD#8]
  | .xor_mHL => [0xAE#8]
  | .xor_a => [0xAF#8]
  | .or_b => [0xB0#8]
  | .or_c => [0xB1#8]
  | .or_d => [0xB2#8]
  | .or_e => [0xB3#8]
  | .or_h => [0xB4#8]
  | .or_l => [0xB5#8]
  | .or_mHL => [0xB6#8]
  | .or_a => [0xB7#8]
  | .cp_b => [0xB8#8]
  | .cp_c => [0xB9#8]
  | .cp_d => [0xBA#8]
  | .cp_e => [0xBB#8]
  | .cp_h => [0xBC#8]
  | .cp_l => [0xBD#8]
  | .cp_mHL => [0xBE#8]
  | .cp_a => [0xBF#8]
  | .ret_nz => [0xC0#8]
  | .pop_bc => [0xC1#8]
  | .jp_nz_a16 a16 => [0xC2#8, loByte a16, hiByte a16]
  | .jp_a16 a16 => [0xC3#8, loByte a16, hiByte a16]
  | .call_nz_a16 a16 => [0xC4#8, loByte a16, hiByte a16]
  | .push_bc => [0xC5#8]
  | .add_a_d8 d8 => [0xC6#8, d8]
  | .rst_00h => [0xC7#8]
  | .ret_z => [0xC8#8]
  | .ret => [0xC9#8]
  | .jp_z_a16 a16 => [0xCA#8, loByte a16, hiByte a16]
  | .call_z_a16 a16 => [0xCC#8, loByte a16, hiByte a16]
  | .call_a16 a16 => [0xCD#8, loByte a16, hiByte a16]
  | .adc_a_d8 d8 => [0xCE#8, d8]
  | .rst_08h => [0xCF#8]
  | .ret_nc => [0xD0#8]
  | .pop_de => [0xD1#8]
  | .jp_nc_a16 a16 => [0xD2#8, loByte a16, hiByte a16]
  | .illegal opcode => [opcode]
  | .call_nc_a16 a16 => [0xD4#8, loByte a16, hiByte a16]
  | .push_de => [0xD5#8]
  | .sub_d8 d8 => [0xD6#8, d8]
  | .rst_10h => [0xD7#8]
  | .ret_c => [0xD8#8]
  | .reti => [0xD9#8]
  | .jp_c_a16 a16 => [0xDA#8, loByte a16, hiByte a16]
  | .call_c_a16 a16 => [0xDC#8, loByte a16, hiByte a16]
  | .sbc_a_d8 d8 => [0xDE#8, d8]
  | .rst_18h => [0xDF#8]
  | .ldh_mA8_a a8 => [0xE0#8, a8]
  | .pop_hl => [0xE1#8]
  | .ld_mC_a => [0xE2#8]
  | .push_hl => [0xE5#8]
  | .and_d8 d8 => [0xE6#8, d8]
  | .rst_20h => [0xE7#8]
  | .add_sp_e8 e8 => [0xE8#8, e8]
  | .jp_hl => [0xE9#8]
  | .ld_mA16_a a16 => [0xEA#8, loByte a16, hiByte a16]
  | .xor_d8 d8 => [0xEE#8, d8]
  | .rst_28h => [0xEF#8]
  | .ldh_a_mA8 a8 => [0xF0#8, a8]
  | .pop_af => [0xF1#8]
  | .ld_a_mC => [0xF2#8]
  | .di => [0xF3#8]
  | .push_af => [0xF5#8]
  | .or_d8 d8 => [0xF6#8, d8]
  | .rst_30h => [0xF7#8]
  | .ld_hl_sp_e8 e8 => [0xF8#8, e8]
  | .ld_sp_hl => [0xF9#8]
  | .ld_a_mA16 a16 => [0xFA#8, loByte a16, hiByte a16]
  | .ei => [0xFB#8]
  | .cp_d8 d8 => [0xFE#8, d8]
  | .rst_38h => [0xFF#8]
  | .rlc_b => [0xCB#8, 0x00#8]
  | .rlc_c => [0xCB#8, 0x01#8]
  | .rlc_d => [0xCB#8, 0x02#8]
  | .rlc_e => [0xCB#8, 0x03#8]
  | .rlc_h => [0xCB#8, 0x04#8]
  | .rlc_l => [0xCB#8, 0x05#8]
  | .rlc_mHL => [0xCB#8, 0x06#8]
  | .rlc_a => [0xCB#8, 0x07#8]
  | .rrc_b => [0xCB#8, 0x08#8]
  | .rrc_c => [0xCB#8, 0x09#8]
  | .rrc_d => [0xCB#8, 0x0A#8]
  | .rrc_e => [0xCB#8, 0x0B#8]
  | .rrc_h => [0xCB#8, 0x0C#8]
  | .rrc_l => [0xCB#8, 0x0D#8]
  | .rrc_mHL => [0xCB#8, 0x0E#8]
  | .rrc_a => [0xCB#8, 0x0F#8]
  | .rl_b => [0xCB#8, 0x10#8]
  | .rl_c => [0xCB#8, 0x11#8]
  | .rl_d => [0xCB#8, 0x12#8]
  | .rl_e => [0xCB#8, 0x13#8]
  | .rl_h => [0xCB#8, 0x14#8]
  | .rl_l => [0xCB#8, 0x15#8]
  | .rl_mHL => [0xCB#8, 0x16#8]
  | .rl_a => [0xCB#8, 0x17#8]
  | .rr_b => [0xCB#8, 0x18#8]
  | .rr_c => [0xCB#8, 0x19#8]
  | .rr_d => [0xCB#8, 0x1A#8]
  | .rr_e => [0xCB#8, 0x1B#8]
  | .rr_h => [0xCB#8, 0x1C#8]
  | .rr_l => [0xCB#8, 0x1D#8]
  | .rr_mHL => [0xCB#8, 0x1E#8]
  | .rr_a => [0xCB#8, 0x1F#8]
  | .sla_b => [0xCB#8, 0x20#8]
  | .sla_c => [0xCB#8, 0x21#8]
  | .sla_d => [0xCB#8, 0x22#8]
  | .sla_e => [0xCB#8, 0x23#8]
  | .sla_h => [0xCB#8, 0x24#8]
  | .sla_l => [0xCB#8, 0x25#8]
  | .sla_mHL => [0xCB#8, 0x26#8]
  | .sla_a => [0xCB#8, 0x27#8]
  | .sra_b => [0xCB#8, 0x28#8]
  | .sra_c => [0xCB#8, 0x29#8]
  | .sra_d => [0xCB#8, 0x2A#8]
  | .sra_e => [0xCB#8, 0x2B#8]
  | .sra_h => [0xCB#8, 0x2C#8]
  | .sra_l => [0xCB#8, 0x2D#8]
  | .sra_mHL => [0xCB#8, 0x2E#8]
  | .sra_a => [0xCB#8, 0x2F#8]
  | .swap_b => [0xCB#8, 0x30#8]
  | .swap_c => [0xCB#8, 0x31#8]
  | .swap_d => [0xCB#8, 0x32#8]
  | .swap_e => [0xCB#8, 0x33#8]
  | .swap_h => [0xCB#8, 0x34#8]
  | .swap_l => [0xCB#8, 0x35#8]
  | .swap_mHL => [0xCB#8, 0x36#8]
  | .swap_a => [0xCB#8, 0x37#8]
  | .srl_b => [0xCB#8, 0x38#8]
  | .srl_c => [0xCB#8, 0x39#8]
  | .srl_d => [0xCB#8, 0x3A#8]
  | .srl_e => [0xCB#8, 0x3B#8]
  | .srl_h => [0xCB#8, 0x3C#8]
  | .srl_l => [0xCB#8, 0x3D#8]
  | .srl_mHL => [0xCB#8, 0x3E#8]
  | .srl_a => [0xCB#8, 0x3F#8]
  | .bit_0_b => [0xCB#8, 0x40#8]
  | .bit_0_c => [0xCB#8, 0x41#8]
  | .bit_0_d => [0xCB#8, 0x42#8]
  | .bit_0_e => [0xCB#8, 0x43#8]
  | .bit_0_h => [0xCB#8, 0x44#8]
  | .bit_0_l => [0xCB#8, 0x45#8]
  | .bit_0_mHL => [0xCB#8, 0x46#8]
  | .bit_0_a => [0xCB#8, 0x47#8]
  | .bit_1_b => [0xCB#8, 0x48#8]
  | .bit_1_c => [0xCB#8, 0x49#8]
  | .bit_1_d => [0xCB#8, 0x4A#8]
  | .bit_1_e => [0xCB#8, 0x4B#8]
  | .bit_1_h => [0xCB#8, 0x4C#8]
  | .bit_1_l => [0xCB#8, 0x4D#8]
  | .bit_1_mHL => [0xCB#8, 0x4E#8]
  | .bit_1_a => [0xCB#8, 0x4F#8]
  | .bit_2_b => [0xCB#8, 0x50#8]
  | .bit_2_c => [0xCB#8, 0x51#8]
  | .bit_2_d => [0xCB#8, 0x52#8]
  | .bit_2_e => [0xCB#8, 0x53#8]
  | .bit_2_h => [0xCB#8, 0x54#8]
  | .bit_2_l => [0xCB#8, 0x55#8]
  | .bit_2_mHL => [0xCB#8, 0x56#8]
  | .bit_2_a => [0xCB#8, 0x57#8]
  | .bit_3_b => [0xCB#8, 0x58#8]
  | .bit_3_c => [0xCB#8, 0x59#8]
  | .bit_3_d => [0xCB#8, 0x5A#8]
  | .bit_3_e => [0xCB#8, 0x5B#8]
  | .bit_3_h => [0xCB#8, 0x5C#8]
  | .bit_3_l => [0xCB#8, 0x5D#8]
  | .bit_3_mHL => [0xCB#8, 0x5E#8]
  | .bit_3_a => [0xCB#8, 0x5F#8]
  | .bit_4_b => [0xCB#8, 0x60#8]
  | .bit_4_c => [0xCB#8, 0x61#8]
  | .bit_4_d => [0xCB#8, 0x62#8]
  | .bit_4_e => [0xCB#8, 0x63#8]
  | .bit_4_h => [0xCB#8, 0x64#8]
  | .bit_4_l => [0xCB#8, 0x65#8]
  | .bit_4_mHL => [0xCB#8, 0x66#8]
  | .bit_4_a => [0xCB#8, 0x67#8]
  | .bit_5_b => [0xCB#8, 0x68#8]
  | .bit_5_c => [0xCB#8, 0x69#8]
  | .bit_5_d => [0xCB#8, 0x6A#8]
  | .bit_5_e => [0xCB#8, 0x6B#8]
  | .bit_5_h => [0xCB#8, 0x6C#8]
  | .bit_5_l => [0xCB#8, 0x6D#8]
  | .bit_5_mHL => [0xCB#8, 0x6E#8]
  | .bit_5_a => [0xCB#8, 0x6F#8]
  | .bit_6_b => [0xCB#8, 0x70#8]
  | .bit_6_c => [0xCB#8, 0x71#8]
  | .bit_6_d => [0xCB#8, 0x72#8]
  | .bit_6_e => [0xCB#8, 0x73#8]
  | .bit_6_h => [0xCB#8, 0x74#8]
  | .bit_6_l => [0xCB#8, 0x75#8]
  | .bit_6_mHL => [0xCB#8, 0x76#8]
  | .bit_6_a => [0xCB#8, 0x77#8]
  | .bit_7_b => [0xCB#8, 0x78#8]
  | .bit_7_c => [0xCB#8, 0x79#8]
  | .bit_7_d => [0xCB#8, 0x7A#8]
  | .bit_7_e => [0xCB#8, 0x7B#8]
  | .bit_7_h => [0xCB#8, 0x7C#8]
  | .bit_7_l => [0xCB#8, 0x7D#8]
  | .bit_7_mHL => [0xCB#8, 0x7E#8]
  | .bit_7_a => [0xCB#8, 0x7F#8]
  | .res_0_b => [0xCB#8, 0x80#8]
  | .res_0_c => [0xCB#8, 0x81#8]
  | .res_0_d => [0xCB#8, 0x82#8]
  | .res_0_e => [0xCB#8, 0x83#8]
  | .res_0_h => [0xCB#8, 0x84#8]
  | .res_0_l => [0xCB#8, 0x85#8]
  | .res_0_mHL => [0xCB#8, 0x86#8]
  | .res_0_a => [0xCB#8, 0x87#8]
  | .res_1_b => [0xCB#8, 0x88#8]
  | .res_1_c => [0xCB#8, 0x89#8]
  | .res_1_d => [0xCB#8, 0x8A#8]
  | .res_1_e => [0xCB#8, 0x8B#8]
  | .res_1_h => [0xCB#8, 0x8C#8]
  | .res_1_l => [0xCB#8, 0x8D#8]
  | .res_1_mHL => [0xCB#8, 0x8E#8]
  | .res_1_a => [0xCB#8, 0x8F#8]
  | .res_2_b => [0xCB#8, 0x90#8]
  | .res_2_c => [0xCB#8, 0x91#8]
  | .res_2_d => [0xCB#8, 0x92#8]
  | .res_2_e => [0xCB#8, 0x93#8]
  | .res_2_h => [0xCB#8, 0x94#8]
  | .res_2_l => [0xCB#8, 0x95#8]
  | .res_2_mHL => [0xCB#8, 0x96#8]
  | .res_2_a => [0xCB#8, 0x97#8]
  | .res_3_b => [0xCB#8, 0x98#8]
  | .res_3_c => [0xCB#8, 0x99#8]
  | .res_3_d => [0xCB#8, 0x9A#8]
  | .res_3_e => [0xCB#8, 0x9B#8]
  | .res_3_h => [0xCB#8, 0x9C#8]
  | .res_3_l => [0xCB#8, 0x9D#8]
  | .res_3_mHL => [0xCB#8, 0x9E#8]
  | .res_3_a => [0xCB#8, 0x9F#8]
  | .res_4_b => [0xCB#8, 0xA0#8]
  | .res_4_c => [0xCB#8, 0xA1#8]
  | .res_4_d => [0xCB#8, 0xA2#8]
  | .res_4_e => [0xCB#8, 0xA3#8]
  | .res_4_h => [0xCB#8, 0xA4#8]
  | .res_4_l => [0xCB#8, 0xA5#8]
  | .res_4_mHL => [0xCB#8, 0xA6#8]
  | .res_4_a => [0xCB#8, 0xA7#8]
  | .res_5_b => [0xCB#8, 0xA8#8]
  | .res_5_c => [0xCB#8, 0xA9#8]
  | .res_5_d => [0xCB#8, 0xAA#8]
  | .res_5_e => [0xCB#8, 0xAB#8]
  | .res_5_h => [0xCB#8, 0xAC#8]
  | .res_5_l => [0xCB#8, 0xAD#8]
  | .res_5_mHL => [0xCB#8, 0xAE#8]
  | .res_5_a => [0xCB#8, 0xAF#8]
  | .res_6_b => [0xCB#8, 0xB0#8]
  | .res_6_c => [0xCB#8, 0xB1#8]
  | .res_6_d => [0xCB#8, 0xB2#8]
  | .res_6_e => [0xCB#8, 0xB3#8]
  | .res_6_h => [0xCB#8, 0xB4#8]
  | .res_6_l => [0xCB#8, 0xB5#8]
  | .res_6_mHL => [0xCB#8, 0xB6#8]
  | .res_6_a => [0xCB#8, 0xB7#8]
  | .res_7_b => [0xCB#8, 0xB8#8]
  | .res_7_c => [0xCB#8, 0xB9#8]
  | .res_7_d => [0xCB#8, 0xBA#8]
  | .res_7_e => [0xCB#8, 0xBB#8]
  | .res_7_h => [0xCB#8, 0xBC#8]
  | .res_7_l => [0xCB#8, 0xBD#8]
  | .res_7_mHL => [0xCB#8, 0xBE#8]
  | .res_7_a => [0xCB#8, 0xBF#8]
  | .set_0_b => [0xCB#8, 0xC0#8]
  | .set_0_c => [0xCB#8, 0xC1#8]
  | .set_0_d => [0xCB#8, 0xC2#8]
  | .set_0_e => [0xCB#8, 0xC3#8]
  | .set_0_h => [0xCB#8, 0xC4#8]
  | .set_0_l => [0xCB#8, 0xC5#8]
  | .set_0_mHL => [0xCB#8, 0xC6#8]
  | .set_0_a => [0xCB#8, 0xC7#8]
  | .set_1_b => [0xCB#8, 0xC8#8]
  | .set_1_c => [0xCB#8, 0xC9#8]
  | .set_1_d => [0xCB#8, 0xCA#8]
  | .set_1_e => [0xCB#8, 0xCB#8]
  | .set_1_h => [0xCB#8, 0xCC#8]
  | .set_1_l => [0xCB#8, 0xCD#8]
  | .set_1_mHL => [0xCB#8, 0xCE#8]
  | .set_1_a => [0xCB#8, 0xCF#8]
  | .set_2_b => [0xCB#8, 0xD0#8]
  | .set_2_c => [0xCB#8, 0xD1#8]
  | .set_2_d => [0xCB#8, 0xD2#8]
  | .set_2_e => [0xCB#8, 0xD3#8]
  | .set_2_h => [0xCB#8, 0xD4#8]
  | .set_2_l => [0xCB#8, 0xD5#8]
  | .set_2_mHL => [0xCB#8, 0xD6#8]
  | .set_2_a => [0xCB#8, 0xD7#8]
  | .set_3_b => [0xCB#8, 0xD8#8]
  | .set_3_c => [0xCB#8, 0xD9#8]
  | .set_3_d => [0xCB#8, 0xDA#8]
  | .set_3_e => [0xCB#8, 0xDB#8]
  | .set_3_h => [0xCB#8, 0xDC#8]
  | .set_3_l => [0xCB#8, 0xDD#8]
  | .set_3_mHL => [0xCB#8, 0xDE#8]
  | .set_3_a => [0xCB#8, 0xDF#8]
  | .set_4_b => [0xCB#8, 0xE0#8]
  | .set_4_c => [0xCB#8, 0xE1#8]
  | .set_4_d => [0xCB#8, 0xE2#8]
  | .set_4_e => [0xCB#8, 0xE3#8]
  | .set_4_h => [0xCB#8, 0xE4#8]
  | .set_4_l => [0xCB#8, 0xE5#8]
  | .set_4_mHL => [0xCB#8, 0xE6#8]
  | .set_4_a => [0xCB#8, 0xE7#8]
  | .set_5_b => [0xCB#8, 0xE8#8]
  | .set_5_c => [0xCB#8, 0xE9#8]
  | .set_5_d => [0xCB#8, 0xEA#8]
  | .set_5_e => [0xCB#8, 0xEB#8]
  | .set_5_h => [0xCB#8, 0xEC#8]
  | .set_5_l => [0xCB#8, 0xED#8]
  | .set_5_mHL => [0xCB#8, 0xEE#8]
  | .set_5_a => [0xCB#8, 0xEF#8]
  | .set_6_b => [0xCB#8, 0xF0#8]
  | .set_6_c => [0xCB#8, 0xF1#8]
  | .set_6_d => [0xCB#8, 0xF2#8]
  | .set_6_e => [0xCB#8, 0xF3#8]
  | .set_6_h => [0xCB#8, 0xF4#8]
  | .set_6_l => [0xCB#8, 0xF5#8]
  | .set_6_mHL => [0xCB#8, 0xF6#8]
  | .set_6_a => [0xCB#8, 0xF7#8]
  | .set_7_b => [0xCB#8, 0xF8#8]
  | .set_7_c => [0xCB#8, 0xF9#8]
  | .set_7_d => [0xCB#8, 0xFA#8]
  | .set_7_e => [0xCB#8, 0xFB#8]
  | .set_7_h => [0xCB#8, 0xFC#8]
  | .set_7_l => [0xCB#8, 0xFD#8]
  | .set_7_mHL => [0xCB#8, 0xFE#8]
  | .set_7_a => [0xCB#8, 0xFF#8]

/-- These bytes, whatever follows them, decode to this instruction and are all of it. -/
def Encodes (bytes : List Byte) (i : Instr) : Prop :=
  ∀ rest : List Byte, decode (bytes ++ rest) = .ok (i, rest)

end Sys2Proof
end

