-- ==== Sys2Proof/Machine/Flags.lean ====
section
/-! DEFINITION. The flag register's layout (10_state.md R25 to R27) and every flag computation of the
spec, as pure functions on bytes and words: exact integer arithmetic, narrowed at the end (00_scope.md R8). -/

namespace Sys2Proof.Machine

/-- The four flags (10_state.md R26; GJ's CpuFlags). -/
structure FlagSet where
  z : Bool
  n : Bool
  h : Bool
  c : Bool
  deriving DecidableEq, Repr

/-- {Z, N, H, C, 0000} (R27). -/
def FlagSet.pack (fs : FlagSet) : Byte :=
  BitVec.ofNat 8 (128 * fs.z.toNat + 64 * fs.n.toNat + 32 * fs.h.toNat + 16 * fs.c.toNat)

/-- The four flags decoded from F[7:4] (R27). -/
def FlagSet.unpack (f : Byte) : FlagSet :=
  { z := f.getLsbD 7, n := f.getLsbD 6, h := f.getLsbD 5, c := f.getLsbD 4 }

/-- What reaches F: every write stores `v & 0xF0`, so bits 3..0 are always zero (R25). -/
def maskF (v : Byte) : Byte := v &&& 0xF0#8

/-- v[3:0] as a number. -/
def lowNibble (v : Byte) : Nat := v.toNat % 16

/-- A + v + carry-in: the exact sum, its low byte and its flags (40_alu8.md R132, R135). -/
def addBytes (a v : Byte) (cin : Bool) : Byte × FlagSet :=
  let sum := a.toNat + v.toNat + cin.toNat
  let res := BitVec.ofNat 8 sum
  (res, { z := res == 0#8, n := false
          h := decide (lowNibble a + lowNibble v + cin.toNat > 0xF)
          c := decide (sum > 0xFF) })

/-- A - v - borrow-in modulo 256 and its flags: H and C are borrows (40_alu8.md R138, R141). -/
def subBytes (a v : Byte) (cin : Bool) : Byte × FlagSet :=
  let res := a - v - BitVec.ofNat 8 cin.toNat
  (res, { z := res == 0#8, n := true
          h := decide (lowNibble a < lowNibble v + cin.toNat)
          c := decide (a.toNat < v.toNat + cin.toNat) })

/-- The flags of a logical operation: Z from the result, N = 0, C = 0, H given (40_alu8.md R144, R147, R150). -/
def logicFlags (res : Byte) (half : Bool) : FlagSet :=
  { z := res == 0#8, n := false, h := half, c := false }

/-- The result and flags of the eight operations of R96 on A and a source byte (40_alu8.md R131 to R155).
For CP the result is A itself: it is the subtraction's flags that count (R153). -/
def aluBytes (op : AluOp) (a v : Byte) (carry : Bool) : Byte × FlagSet :=
  match op with
  | .add => addBytes a v false
  | .adc => addBytes a v carry
  | .sub => subBytes a v false
  | .sbc => subBytes a v carry
  | .and => (a &&& v, logicFlags (a &&& v) true)
  | .xor => (a ^^^ v, logicFlags (a ^^^ v) false)
  | .or  => (a ||| v, logicFlags (a ||| v) false)
  | .cp  => (a, (subBytes a v false).2)

/-- INC of a byte: H is the carry out of bit 3, C is kept (40_alu8.md R156). -/
def incByte (v : Byte) (old : FlagSet) : Byte × FlagSet :=
  (v + 1#8, { z := v + 1#8 == 0#8, n := false, h := lowNibble v == 0xF, c := old.c })

/-- DEC of a byte: H is the borrow into bit 3, C is kept (40_alu8.md R158). -/
def decByte (v : Byte) (old : FlagSet) : Byte × FlagSet :=
  (v - 1#8, { z := v - 1#8 == 0#8, n := true, h := lowNibble v == 0x0, c := old.c })

/-- ADD HL,rr: carries from bits 11 and 15, N = 0, Z kept (41_alu16.md R170, 90_conflicts.md C4). -/
def addWords (h v : Word) (old : FlagSet) : Word × FlagSet :=
  (h + v, { z := old.z, n := false
            h := decide (h.toNat % 0x1000 + v.toNat % 0x1000 > 0xFFF)
            c := decide (h.toNat + v.toNat > 0xFFFF) })

/-- SP + sext(b): the sum is signed, H and C are the carries of the unsigned addition of SP's low byte and the
raw byte, Z = N = 0 (41_alu16.md R171, 42_loads.md R203). -/
def addOffset (s : Word) (b : Byte) : Word × FlagSet :=
  (s + b.signExtend 16,
    { z := false, n := false
      h := decide (s.toNat % 16 + lowNibble b > 0xF)
      c := decide (s.toNat % 256 + b.toNat > 0xFF) })

/-- A rotate or shift: the result and the bit shifted out (44_rotate_shift.md R245 to R260; SWAP shifts none out, R257). -/
def rotateByte (op : RotOp) (v : Byte) (carry : Bool) : Byte × Bool :=
  match op with
  | .rlc  => ((v <<< 1) ||| BitVec.ofNat 8 (v.getLsbD 7).toNat, v.getLsbD 7)
  | .rrc  => ((v >>> 1) ||| (BitVec.ofNat 8 (v.getLsbD 0).toNat <<< 7), v.getLsbD 0)
  | .rl   => ((v <<< 1) ||| BitVec.ofNat 8 carry.toNat, v.getLsbD 7)
  | .rr   => ((v >>> 1) ||| (BitVec.ofNat 8 carry.toNat <<< 7), v.getLsbD 0)
  | .sla  => (v <<< 1, v.getLsbD 7)
  | .sra  => ((v >>> 1) ||| (v &&& 0x80#8), v.getLsbD 0)
  | .swap => ((v <<< 4) ||| (v >>> 4), false)
  | .srl  => (v >>> 1, v.getLsbD 0)

/-- The flags of a CB rotate or shift (R240). -/
def rotateFlags (res : Byte) (co : Bool) : FlagSet :=
  { z := res == 0#8, n := false, h := false, c := co }

/-- The flags of RLCA, RRCA, RLA and RRA: Z is always 0 (R241 to R244). -/
def accRotateFlags (co : Bool) : FlagSet :=
  { z := false, n := false, h := false, c := co }

/-- The flags of BIT: Z is the complement of the tested bit, C is kept (45_bit.md R270). -/
def bitFlags (v : Byte) (i : Index8) (old : FlagSet) : FlagSet :=
  { z := !v.getLsbD i.val, n := false, h := true, c := old.c }

/-- v & ~(1 << b) (45_bit.md R272). -/
def clearBit (v : Byte) (i : Index8) : Byte := v &&& ~~~(1#8 <<< i.val)

/-- v | (1 << b) (45_bit.md R274). -/
def setBit (v : Byte) (i : Index8) : Byte := v ||| (1#8 <<< i.val)

/-- Whether DAA corrects the high digit: after an addition when C was set or A > 0x99, after a subtraction
when C was set (46_misc.md R285). -/
def daaHigh (a : Byte) (old : FlagSet) : Bool :=
  old.c || (!old.n && decide (a.toNat > 0x99))

/-- Whether DAA corrects the low digit: after an addition when H was set or A[3:0] > 9, after a subtraction
when H was set (46_misc.md R285). -/
def daaLow (a : Byte) (old : FlagSet) : Bool :=
  old.h || (!old.n && decide (lowNibble a > 0x9))

/-- DAA (46_misc.md R285): N is kept, H is cleared, C is set by a high correction. -/
def daaByte (a : Byte) (old : FlagSet) : Byte × FlagSet :=
  let adj := (if daaHigh a old then 0x60#8 else 0#8) ||| (if daaLow a old then 0x06#8 else 0#8)
  let res := if old.n then a - adj else a + adj
  (res, { z := res == 0#8, n := old.n, h := false, c := daaHigh a old })

end Sys2Proof.Machine
end

