-- ==== Sys2Proof/Config.lean ====
section
/-! DEFINITION. The named parameters of 00_scope.md R6 and the choices an implementation makes. -/

namespace Sys2Proof

/-- P_EI_DELAY ∈ {0, 1} (R6, 46_misc.md R284): by how many instructions EI's effect is deferred. -/
inductive EiDelay where
  /-- P_EI_DELAY = 0, the default: EI sets ime at once. -/
  | zero
  /-- P_EI_DELAY = 1: ime becomes 1 at the end of the step after EI. -/
  | one
  deriving DecidableEq, Repr

/-- P_RESET_PROFILE (R6, 70_reset_and_hazards.md R334, R335). -/
inductive ResetProfile where
  | hardwareReset
  | postBootDMG
  deriving DecidableEq, Repr

/-- The parameters that stay fixed while the machine runs (R6): P_EI_DELAY and P_INTERRUPT_VECTORS.
A machine carries its own in `State.params`, which no step writes (log 3). -/
structure Params where
  eiDelay : EiDelay
  interruptVectors : List Word
  deriving DecidableEq, Repr

/-- The register values HardwareReset leaves unspecified, "each one an arbitrary value of its width"
(70_reset_and_hazards.md R334). The low four bits of `f` are discarded at reset (10_state.md R25). -/
structure RegisterDraw where
  a : Byte
  b : Byte
  c : Byte
  d : Byte
  e : Byte
  h : Byte
  l : Byte
  f : Byte
  sp : Word
  deriving DecidableEq, Repr

namespace Config

/-- The defaults of R6: P_EI_DELAY = 0 and the five vectors of 60_exceptions.md R309. -/
def defaultParams : Params :=
  { eiDelay := .zero
    interruptVectors := [0x0040#16, 0x0048#16, 0x0050#16, 0x0058#16, 0x0060#16] }

/-- The default of P_RESET_PROFILE (R6). -/
def defaultProfile : ResetProfile := .hardwareReset

/-- DESIGN CHOICE (log 1), unsafe: the draw that `State.reset` uses. The spec gives these registers no
value; no statement rests on this one. -/
def zeroDraw : RegisterDraw :=
  { a := 0#8, b := 0#8, c := 0#8, d := 0#8, e := 0#8, h := 0#8, l := 0#8, f := 0#8, sp := 0#16 }

/-- DESIGN CHOICE (log 2), unsafe: what a byte of memory that no entry lists reads as. -/
def unlistedByte : Byte := 0x00#8

end Config

end Sys2Proof
end

