-- ==== Sys2Proof/Machine/State.lean ====
section
/-! DEFINITION. The machine's state as plain data (10_state.md section 7), the reasons a step can stop,
and the state after reset (70_reset_and_hazards.md R330 to R337). -/

namespace Sys2Proof.Machine

/-- The run state of the core (10_state.md R33). -/
inductive RunState where
  | running
  | halted
  | stopped
  deriving DecidableEq, Repr

/-- Memory as (address, byte) pairs, addresses strictly rising, below 65,536, and none holding the
unlisted byte; `Memory.wf` says so. An address without an entry reads as `Config.unlistedByte`. -/
abbrev Memory := List Host.Cell

/-- The errors of the core (60_exceptions.md R300). -/
inductive Fault where
  /-- UnknownOpcode of R301: raised by a step whose opcode byte is one of the 11 unmapped main-table
  bytes, with no state changed. Safe: the spec itself makes it a terminal outcome of the step. -/
  | unknownOpcode (opcode : Byte)
  deriving DecidableEq, Repr

/-- The reasons an operation of the core is refused. -/
inductive Refusal where
  /-- Raised by an arm of `exec` whose instruction has no meaning yet (none is left). Safe. -/
  | notModelled (mnemonic : String)
  /-- Raised by interrupt entry while ime = 0 (60_exceptions.md R308, last bullet). Safe: the spec says so. -/
  | interruptsDisabled
  /-- Raised by interrupt entry at an address outside P_INTERRUPT_VECTORS (60_exceptions.md R309, log 11). Safe. -/
  | notAnInterruptVector (vector : Word)
  deriving DecidableEq, Repr

/-- Everything the spec gives the machine (10_state.md R20, R30, R32 to R36, R39; 20_memory.md R60), and
the machine's own fixed parameters. Registers are read and written through `Ops` alone. -/
structure State where
  a : Byte
  b : Byte
  c : Byte
  d : Byte
  e : Byte
  h : Byte
  l : Byte
  /-- The flag register: Z, N, H, C in bits 7..4, and bits 3..0 zero (R25, R26). -/
  f : Byte
  sp : Word
  pc : Word
  /-- The interrupt-enable flag (R32). -/
  ime : Bool
  /-- `ime_pending` (R35); means something only when P_EI_DELAY = 1 (log 4). -/
  imePending : Bool
  run : RunState
  /-- The cumulative count of M-cycles, a natural number that never wraps (R34). -/
  cycles : Nat
  mem : Memory
  /-- The MODEL's own field: the fixed parameters of this machine (log 3). -/
  params : Params
  deriving DecidableEq, Repr

/-- The state after reset under a profile (70_reset_and_hazards.md R330 to R337), for any parameters, any draw of the
unspecified registers (R334) and any initial memory (R336). -/
def State.resetAs (profile : ResetProfile) (params : Params) (draw : RegisterDraw) (mem : Memory) : State :=
  match profile with
  | .hardwareReset =>
    { a := draw.a, b := draw.b, c := draw.c, d := draw.d, e := draw.e, h := draw.h, l := draw.l
      f := draw.f &&& 0xF0#8, sp := draw.sp, pc := 0x0000#16
      ime := false, imePending := false, run := .running, cycles := 0, mem := mem, params := params }
  | .postBootDMG =>
    { a := 0x01#8, b := 0x00#8, c := 0x13#8, d := 0x00#8, e := 0xD8#8, h := 0x01#8, l := 0x4D#8
      f := 0xB0#8, sp := 0xFFFE#16, pc := 0x0100#16
      ime := false, imePending := false, run := .running, cycles := 0, mem := mem, params := params }

/-- The machine right after reset with every parameter at its default (00_scope.md R6) and memory with nothing
listed. The draw is DESIGN CHOICE (log 1) and so is the initial memory (log 2). -/
def State.reset : State :=
  State.resetAs Config.defaultProfile Config.defaultParams Config.zeroDraw []

end Sys2Proof.Machine
end

