-- ==== Sys2Proof/Machine/Ops.lean ====
section
/-! DEFINITION. The named operations over memory, registers and control state that every meaning is built from:
the two memory primitives, the register file, the stack, fetch, and interrupt entry with its return. -/

namespace Sys2Proof.Machine

/-- What an instruction's meaning answers. -/
abbrev Result := Host.Outcome State Fault Refusal

/-! ## Memory -/

/-- MemRead (20_memory.md R61): the byte at an address; an unlisted address reads as `Config.unlistedByte`. -/
def Memory.read : Memory → Nat → Byte
  | [], _ => Config.unlistedByte
  | (k, w) :: rest, a => if k = a then w else Memory.read rest a

/-- The entry for a byte at an address, none where it is what an unlisted address reads as. -/
def Memory.entry (a : Nat) (v : Byte) (rest : Memory) : Memory :=
  if v = Config.unlistedByte then rest else (a, v) :: rest

/-- MemWrite (20_memory.md R61): the byte at one address replaced, the canonical form kept. -/
def Memory.write : Memory → Nat → Byte → Memory
  | [], a, v => Memory.entry a v []
  | (k, w) :: rest, a, v =>
    if a < k then Memory.entry a v ((k, w) :: rest)
    else if a = k then Memory.entry a v rest
    else (k, w) :: Memory.write rest a v

/-- The canonical form from a lower bound on: addresses strictly rising from `lo` and below 65,536, and no entry
holding the unlisted byte. -/
def Memory.wfFrom : Nat → Memory → Bool
  | _, [] => true
  | lo, (k, w) :: rest =>
    decide (lo ≤ k) && decide (k < 0x10000) && decide (w ≠ Config.unlistedByte) && Memory.wfFrom (k + 1) rest

/-- The canonical form of a memory: equal memories are equal lists. -/
def Memory.wf (m : Memory) : Bool := Memory.wfFrom 0 m

/-- The canonical memory of `count` addresses from `start` on that holds `f`. -/
def Memory.ofRange (f : Word → Byte) : Nat → Nat → Memory
  | 0, _ => []
  | count + 1, start => Memory.entry start (f (BitVec.ofNat 16 start)) (Memory.ofRange f count (start + 1))

/-- P_INITIAL_MEMORY, a function from 16-bit addresses to bytes (70_reset_and_hazards.md R336), as a memory. -/
def Memory.ofFun (f : Word → Byte) : Memory := Memory.ofRange f 0x10000 0

/-- Reset with the initial memory given as the spec gives it: a function of the address (R336). -/
def State.resetFrom (profile : ResetProfile) (params : Params) (draw : RegisterDraw) (f : Word → Byte) : State :=
  State.resetAs profile params draw (Memory.ofFun f)

/-- MemRead(addr, 1). -/
def State.readByte (s : State) (a : Word) : Byte := s.mem.read a.toNat

/-- MemWrite(addr, 1, v). -/
def State.writeByte (s : State) (a : Word) (v : Byte) : State :=
  { s with mem := s.mem.write a.toNat v }

/-- Read16 (R64): the high byte from a + 1, the low byte from a. -/
def State.read16 (s : State) (a : Word) : Word := wordOf (s.readByte (a + 1#16)) (s.readByte a)

/-- Write16 (R64): the low byte at a, then the high byte at a + 1. -/
def State.write16 (s : State) (a : Word) (v : Word) : State :=
  (s.writeByte a (loByte v)).writeByte (a + 1#16) (hiByte v)

/-! ## The register file (10_state.md R20 to R29) -/

/-- `read_single`: a read of F has bits 3..0 zero (R25). -/
def State.readSingle (s : State) : SingleRegister → Byte
  | .a => s.a
  | .b => s.b
  | .c => s.c
  | .d => s.d
  | .e => s.e
  | .h => s.h
  | .l => s.l
  | .f => maskF s.f

/-- `write_single`: a write of F stores `v & 0xF0` (R25). -/
def State.writeSingle (s : State) (r : SingleRegister) (v : Byte) : State :=
  match r with
  | .a => { s with a := v }
  | .b => { s with b := v }
  | .c => { s with c := v }
  | .d => { s with d := v }
  | .e => { s with e := v }
  | .h => { s with h := v }
  | .l => { s with l := v }
  | .f => { s with f := maskF v }

/-- `read_double` (R23): the first letter is the high byte. -/
def State.readDouble (s : State) : DoubleRegister → Word
  | .af => wordOf (s.readSingle .a) (s.readSingle .f)
  | .bc => wordOf s.b s.c
  | .de => wordOf s.d s.e
  | .hl => wordOf s.h s.l
  | .sp => s.sp
  | .pc => s.pc

/-- `write_double` (R24): both halves together; F's half is masked (R25). -/
def State.writeDouble (s : State) (rr : DoubleRegister) (v : Word) : State :=
  match rr with
  | .af => { s with a := hiByte v, f := maskF (loByte v) }
  | .bc => { s with b := hiByte v, c := loByte v }
  | .de => { s with d := hiByte v, e := loByte v }
  | .hl => { s with h := hiByte v, l := loByte v }
  | .sp => { s with sp := v }
  | .pc => { s with pc := v }

/-- `flags()` (R27). -/
def State.flags (s : State) : FlagSet := FlagSet.unpack s.f

/-- `set_flags` (R27). -/
def State.setFlags (s : State) (fs : FlagSet) : State := { s with f := fs.pack }

/-- A condition holds of the current flags (R37). -/
def State.cond (s : State) : Cond → Bool
  | .nz => !s.flags.z
  | .z  => s.flags.z
  | .nc => !s.flags.c
  | .c  => s.flags.c

/-! ## Control state (10_state.md R30 to R35) -/

/-- cycles <- cycles + n (R34). -/
def State.tick (s : State) (n : Nat) : State := { s with cycles := s.cycles + n }

/-- pc <- pc + len, modulo 2^16 (R30, R31). -/
def State.advance (s : State) (len : Nat) : State := { s with pc := s.pc + BitVec.ofNat 16 len }

/-- pc <- v. -/
def State.setPc (s : State) (v : Word) : State := { s with pc := v }

/-- ime <- v (R32). -/
def State.setIme (s : State) (v : Bool) : State := { s with ime := v }

/-- run <- v (R33). -/
def State.setRun (s : State) (v : RunState) : State := { s with run := v }

/-- `ime_pending` as the machine sees it: with P_EI_DELAY = 0 it does not exist (R35, log 4). -/
def State.pending (s : State) : Bool := decide (s.params.eiDelay = .one) && s.imePending

/-- ime_pending <- v, "only when P_EI_DELAY = 1" (R35, log 4). -/
def State.setPending (s : State) (v : Bool) : State :=
  match s.params.eiDelay with
  | .zero => s
  | .one => { s with imePending := v }

/-! ## The stack (20_memory.md R65, R69) -/

/-- One byte pushed: SP is decremented, then the byte is written at SP (10_state.md R39). -/
def State.pushByte (s : State) (v : Byte) : State :=
  State.writeByte { s with sp := s.sp - 1#16 } (s.sp - 1#16) v

/-- Push16: the high byte, then the low byte. -/
def State.push16 (s : State) (v : Word) : State := (s.pushByte (hiByte v)).pushByte (loByte v)

/-- Pop16: the low byte from SP, the high byte from SP + 1, and SP moved past both. -/
def State.pop16 (s : State) : Word × State :=
  (wordOf (s.readByte (s.sp + 1#16)) (s.readByte s.sp), { s with sp := s.sp + 2#16 })

/-! ## Fetch (30_encoding.md R105 to R107) -/

/-- `decode(mem, pc)`: the instruction whose first byte is at `pc`, and its length. A byte past the
instruction's length is not read (R106). -/
def State.fetchDecode (s : State) (pc : Word) : Instr × Nat :=
  let b0 := s.readByte pc
  let n := instrLength b0
  let b1 := if n ≥ 2 then s.readByte (pc + 1#16) else 0#8
  let b2 := if n = 3 then s.readByte (pc + 2#16) else 0#8
  (decodeBytes b0 b1 b2, n)

/-- Bytes stored at rising addresses from `a` on, wrapping at 0xFFFF: how a program is placed (log 8). -/
def State.placeBytes (s : State) (a : Word) : List Byte → State
  | [] => s
  | v :: rest => State.placeBytes (s.writeByte a v) (a + 1#16) rest

/-- A step in Halted or Stopped: one M-cycle passes and nothing else changes (R108). -/
def State.idle (s : State) : State := s.tick 1

/-- The end of a step under P_EI_DELAY = 1 (R107): a pending enable that stood when the step began and still
stands after execute takes effect. -/
def State.completeEi (before after : State) : State :=
  if before.pending && after.pending then (after.setIme true).setPending false else after

/-! ## Interrupt entry and its return (60_exceptions.md R307, R308, R312) -/

/-- What entering an interrupt at vector `v` does: ime <- 0, ime_pending <- 0, run <- Running, Push16(pc),
pc <- v, cycles + 5 (R308). -/
def State.takeInterrupt (s : State) (v : Word) : State :=
  let s := ((s.setIme false).setPending false).setRun .running
  ((s.push16 s.pc).setPc v).tick 5

/-- Interrupt entry as the external controller triggers it between steps: permitted only while ime = 1 (R307, R308)
and only at an address of P_INTERRUPT_VECTORS (R309). -/
def State.interruptEntry (s : State) (v : Word) : Result :=
  if s.ime = false then .refused .interruptsDisabled
  else if v ∈ s.params.interruptVectors then .next (s.takeInterrupt v)
  else .refused (.notAnInterruptVector v)

/-- pc <- Pop16() (R227). -/
def State.popPc (s : State) : State := s.pop16.2.setPc s.pop16.1

/-- The return from an interrupt: pc <- Pop16(), ime <- 1, ime_pending <- 0 (43_control.md R229). -/
def State.returnFromInterrupt (s : State) : State := (s.popPc.setIme true).setPending false

/-- The wake input: run <- Running and nothing else (60_exceptions.md R319). -/
def State.wake (s : State) : State := s.setRun .running

end Sys2Proof.Machine
end

