-- ==== Sys2Proof/Machine/Operands.lean ====
section
/-! DEFINITION. The operand forms of 00_scope.md R10 as reads and writes of the state. -/

namespace Sys2Proof.Machine

/-- An 8-bit register operand as a slot of the register file; F is never one (30_encoding.md R93). -/
def singleOf : Reg8 → SingleRegister
  | .b => .b
  | .c => .c
  | .d => .d
  | .e => .e
  | .h => .h
  | .l => .l
  | .a => .a

/-- A pair operand rr (30_encoding.md R94). -/
def doubleOf : Pair → DoubleRegister
  | .bc => .bc
  | .de => .de
  | .hl => .hl
  | .sp => .sp

/-- A stack pair operand qq (30_encoding.md R94). -/
def stackDoubleOf : StackPair → DoubleRegister
  | .bc => .bc
  | .de => .de
  | .hl => .hl
  | .af => .af

/-- x[r]. -/
def State.readReg (s : State) (r : Reg8) : Byte := s.readSingle (singleOf r)

/-- x[r] <- v. -/
def State.writeReg (s : State) (r : Reg8) (v : Byte) : State := s.writeSingle (singleOf r) v

/-- x[rr]. -/
def State.readPair (s : State) (rr : Pair) : Word := s.readDouble (doubleOf rr)

/-- x[rr] <- v. -/
def State.writePair (s : State) (rr : Pair) (v : Word) : State := s.writeDouble (doubleOf rr) v

/-- x[qq]. -/
def State.readStackPair (s : State) (qq : StackPair) : Word := s.readDouble (stackDoubleOf qq)

/-- x[qq] <- v; for AF the low half is masked (42_loads.md R205). -/
def State.writeStackPair (s : State) (qq : StackPair) (v : Word) : State := s.writeDouble (stackDoubleOf qq) v

/-- x[HL], the address of the operand (HL). -/
def State.hl (s : State) : Word := s.readDouble .hl

/-- x[HL] <- v. -/
def State.setHl (s : State) (v : Word) : State := s.writeDouble .hl v

/-- The byte of memory at address x[HL]. -/
def State.readAtHl (s : State) : Byte := s.readByte s.hl

/-- The byte of memory at address x[HL] replaced. -/
def State.writeAtHl (s : State) (v : Byte) : State := s.writeByte s.hl v

/-- 0xFF00 | zext_16(x): an address in the page LDH and LD (C) reach (30_encoding.md R99). -/
def highPage (x : Byte) : Word := 0xFF00#16 ||| x.zeroExtend 16

/-- t = zext_16(y) << 3, a restart vector (30_encoding.md R99). -/
def restartVector (y : Index8) : Word := BitVec.ofNat 16 (8 * y.val)

/-- The three sources of the 8-bit ALU (40_alu8.md R130). -/
def State.sourceValue (s : State) : Source → Byte
  | .reg r => s.readReg r
  | .mem => s.readAtHl
  | .imm d8 => d8

/-- The M-cycles of an 8-bit ALU form: 1, 2, 2 (40_alu8.md R130). -/
def sourceCycles : Source → Nat
  | .reg _ => 1
  | .mem => 2
  | .imm _ => 2

end Sys2Proof.Machine
end

