-- ==== Sys2Proof/Machine/Alu16.lean ====
section
/-! DEFINITION. The 16-bit ALU family (41_alu16.md). -/

namespace Sys2Proof.Machine

/-! ## Shared operations -/

/-- ADD HL,rr (R170). -/
def addHlOp (rr : Pair) (s : State) : State :=
  let x := addWords s.hl (s.readPair rr) s.flags
  ((s.setHl x.1).setFlags x.2).tick 2

/-- ADD SP,e8 (R171). -/
def addSpOp (e8 : Byte) (s : State) : State :=
  let x := addOffset s.sp e8
  ((s.writeDouble .sp x.1).setFlags x.2).tick 4

/-- INC rr (R172): no flag is written. -/
def incPairOp (rr : Pair) (s : State) : State := (s.writePair rr (s.readPair rr + 1#16)).tick 2

/-- DEC rr (R173): no flag is written. -/
def decPairOp (rr : Pair) (s : State) : State := (s.writePair rr (s.readPair rr - 1#16)).tick 2

/-! ## The meanings, one per instruction -/

/-- INC BC, R172. -/
def exec_inc_bc (s : State) : Result := .next (incPairOp .bc s)

/-- ADD HL,BC, R170. -/
def exec_add_hl_bc (s : State) : Result := .next (addHlOp .bc s)

/-- DEC BC, R173. -/
def exec_dec_bc (s : State) : Result := .next (decPairOp .bc s)

/-- INC DE, R172. -/
def exec_inc_de (s : State) : Result := .next (incPairOp .de s)

/-- ADD HL,DE, R170. -/
def exec_add_hl_de (s : State) : Result := .next (addHlOp .de s)

/-- DEC DE, R173. -/
def exec_dec_de (s : State) : Result := .next (decPairOp .de s)

/-- INC HL, R172. -/
def exec_inc_hl (s : State) : Result := .next (incPairOp .hl s)

/-- ADD HL,HL, R170. -/
def exec_add_hl_hl (s : State) : Result := .next (addHlOp .hl s)

/-- DEC HL, R173. -/
def exec_dec_hl (s : State) : Result := .next (decPairOp .hl s)

/-- INC SP, R172. -/
def exec_inc_sp (s : State) : Result := .next (incPairOp .sp s)

/-- ADD HL,SP, R170. -/
def exec_add_hl_sp (s : State) : Result := .next (addHlOp .sp s)

/-- DEC SP, R173. -/
def exec_dec_sp (s : State) : Result := .next (decPairOp .sp s)

/-- ADD SP,e8, R171. -/
def exec_add_sp_e8 (e8 : Byte) (s : State) : Result := .next (addSpOp e8 s)

end Sys2Proof.Machine
end

