-- ==== Sys2Proof/Machine/Alu8.lean ====
section
/-! DEFINITION. The 8-bit ALU family (40_alu8.md): the binary operations on A, INC and DEC. -/

namespace Sys2Proof.Machine

/-! ## Shared operations -/

/-- A binary operation on A and a source (R130 to R155): A gets the result, F the flags; CP's result is A
itself, so it leaves A as it was (R153). -/
def aluOp (op : AluOp) (src : Source) (s : State) : State :=
  let r := aluBytes op (s.readReg .a) (s.sourceValue src) s.flags.c
  ((s.writeReg .a r.1).setFlags r.2).tick (sourceCycles src)

/-- INC r (R156). -/
def incRegOp (r : Reg8) (s : State) : State :=
  let x := incByte (s.readReg r) s.flags
  ((s.writeReg r x.1).setFlags x.2).tick 1

/-- INC (HL) (R157): one read, then one write to the same address. -/
def incMemOp (s : State) : State :=
  let x := incByte s.readAtHl s.flags
  ((s.writeAtHl x.1).setFlags x.2).tick 3

/-- DEC r (R158). -/
def decRegOp (r : Reg8) (s : State) : State :=
  let x := decByte (s.readReg r) s.flags
  ((s.writeReg r x.1).setFlags x.2).tick 1

/-- DEC (HL) (R159): one read, then one write to the same address. -/
def decMemOp (s : State) : State :=
  let x := decByte s.readAtHl s.flags
  ((s.writeAtHl x.1).setFlags x.2).tick 3

/-! ## The meanings, one per instruction -/

/-- INC B, R156. -/
def exec_inc_b (s : State) : Result := .next (incRegOp .b s)

/-- DEC B, R158. -/
def exec_dec_b (s : State) : Result := .next (decRegOp .b s)

/-- INC C, R156. -/
def exec_inc_c (s : State) : Result := .next (incRegOp .c s)

/-- DEC C, R158. -/
def exec_dec_c (s : State) : Result := .next (decRegOp .c s)

/-- INC D, R156. -/
def exec_inc_d (s : State) : Result := .next (incRegOp .d s)

/-- DEC D, R158. -/
def exec_dec_d (s : State) : Result := .next (decRegOp .d s)

/-- INC E, R156. -/
def exec_inc_e (s : State) : Result := .next (incRegOp .e s)

/-- DEC E, R158. -/
def exec_dec_e (s : State) : Result := .next (decRegOp .e s)

/-- INC H, R156. -/
def exec_inc_h (s : State) : Result := .next (incRegOp .h s)

/-- DEC H, R158. -/
def exec_dec_h (s : State) : Result := .next (decRegOp .h s)

/-- INC L, R156. -/
def exec_inc_l (s : State) : Result := .next (incRegOp .l s)

/-- DEC L, R158. -/
def exec_dec_l (s : State) : Result := .next (decRegOp .l s)

/-- INC (HL), R157. -/
def exec_inc_mHL (s : State) : Result := .next (incMemOp s)

/-- DEC (HL), R159. -/
def exec_dec_mHL (s : State) : Result := .next (decMemOp s)

/-- INC A, R156. -/
def exec_inc_a (s : State) : Result := .next (incRegOp .a s)

/-- DEC A, R158. -/
def exec_dec_a (s : State) : Result := .next (decRegOp .a s)

/-- ADD A,B, R132. -/
def exec_add_a_b (s : State) : Result := .next (aluOp .add (.reg .b) s)

/-- ADD A,C, R132. -/
def exec_add_a_c (s : State) : Result := .next (aluOp .add (.reg .c) s)

/-- ADD A,D, R132. -/
def exec_add_a_d (s : State) : Result := .next (aluOp .add (.reg .d) s)

/-- ADD A,E, R132. -/
def exec_add_a_e (s : State) : Result := .next (aluOp .add (.reg .e) s)

/-- ADD A,H, R132. -/
def exec_add_a_h (s : State) : Result := .next (aluOp .add (.reg .h) s)

/-- ADD A,L, R132. -/
def exec_add_a_l (s : State) : Result := .next (aluOp .add (.reg .l) s)

/-- ADD A,(HL), R133. -/
def exec_add_a_mHL (s : State) : Result := .next (aluOp .add .mem s)

/-- ADD A,A, R132. -/
def exec_add_a_a (s : State) : Result := .next (aluOp .add (.reg .a) s)

/-- ADC A,B, R135. -/
def exec_adc_a_b (s : State) : Result := .next (aluOp .adc (.reg .b) s)

/-- ADC A,C, R135. -/
def exec_adc_a_c (s : State) : Result := .next (aluOp .adc (.reg .c) s)

/-- ADC A,D, R135. -/
def exec_adc_a_d (s : State) : Result := .next (aluOp .adc (.reg .d) s)

/-- ADC A,E, R135. -/
def exec_adc_a_e (s : State) : Result := .next (aluOp .adc (.reg .e) s)

/-- ADC A,H, R135. -/
def exec_adc_a_h (s : State) : Result := .next (aluOp .adc (.reg .h) s)

/-- ADC A,L, R135. -/
def exec_adc_a_l (s : State) : Result := .next (aluOp .adc (.reg .l) s)

/-- ADC A,(HL), R136. -/
def exec_adc_a_mHL (s : State) : Result := .next (aluOp .adc .mem s)

/-- ADC A,A, R135. -/
def exec_adc_a_a (s : State) : Result := .next (aluOp .adc (.reg .a) s)

/-- SUB B, R138. -/
def exec_sub_b (s : State) : Result := .next (aluOp .sub (.reg .b) s)

/-- SUB C, R138. -/
def exec_sub_c (s : State) : Result := .next (aluOp .sub (.reg .c) s)

/-- SUB D, R138. -/
def exec_sub_d (s : State) : Result := .next (aluOp .sub (.reg .d) s)

/-- SUB E, R138. -/
def exec_sub_e (s : State) : Result := .next (aluOp .sub (.reg .e) s)

/-- SUB H, R138. -/
def exec_sub_h (s : State) : Result := .next (aluOp .sub (.reg .h) s)

/-- SUB L, R138. -/
def exec_sub_l (s : State) : Result := .next (aluOp .sub (.reg .l) s)

/-- SUB (HL), R139. -/
def exec_sub_mHL (s : State) : Result := .next (aluOp .sub .mem s)

/-- SUB A, R138. -/
def exec_sub_a (s : State) : Result := .next (aluOp .sub (.reg .a) s)

/-- SBC A,B, R141. -/
def exec_sbc_a_b (s : State) : Result := .next (aluOp .sbc (.reg .b) s)

/-- SBC A,C, R141. -/
def exec_sbc_a_c (s : State) : Result := .next (aluOp .sbc (.reg .c) s)

/-- SBC A,D, R141. -/
def exec_sbc_a_d (s : State) : Result := .next (aluOp .sbc (.reg .d) s)

/-- SBC A,E, R141. -/
def exec_sbc_a_e (s : State) : Result := .next (aluOp .sbc (.reg .e) s)

/-- SBC A,H, R141. -/
def exec_sbc_a_h (s : State) : Result := .next (aluOp .sbc (.reg .h) s)

/-- SBC A,L, R141. -/
def exec_sbc_a_l (s : State) : Result := .next (aluOp .sbc (.reg .l) s)

/-- SBC A,(HL), R142. -/
def exec_sbc_a_mHL (s : State) : Result := .next (aluOp .sbc .mem s)

/-- SBC A,A, R141. -/
def exec_sbc_a_a (s : State) : Result := .next (aluOp .sbc (.reg .a) s)

/-- AND B, R144. -/
def exec_and_b (s : State) : Result := .next (aluOp .and (.reg .b) s)

/-- AND C, R144. -/
def exec_and_c (s : State) : Result := .next (aluOp .and (.reg .c) s)

/-- AND D, R144. -/
def exec_and_d (s : State) : Result := .next (aluOp .and (.reg .d) s)

/-- AND E, R144. -/
def exec_and_e (s : State) : Result := .next (aluOp .and (.reg .e) s)

/-- AND H, R144. -/
def exec_and_h (s : State) : Result := .next (aluOp .and (.reg .h) s)

/-- AND L, R144. -/
def exec_and_l (s : State) : Result := .next (aluOp .and (.reg .l) s)

/-- AND (HL), R145. -/
def exec_and_mHL (s : State) : Result := .next (aluOp .and .mem s)

/-- AND A, R144. -/
def exec_and_a (s : State) : Result := .next (aluOp .and (.reg .a) s)

/-- XOR B, R147. -/
def exec_xor_b (s : State) : Result := .next (aluOp .xor (.reg .b) s)

/-- XOR C, R147. -/
def exec_xor_c (s : State) : Result := .next (aluOp .xor (.reg .c) s)

/-- XOR D, R147. -/
def exec_xor_d (s : State) : Result := .next (aluOp .xor (.reg .d) s)

/-- XOR E, R147. -/
def exec_xor_e (s : State) : Result := .next (aluOp .xor (.reg .e) s)

/-- XOR H, R147. -/
def exec_xor_h (s : State) : Result := .next (aluOp .xor (.reg .h) s)

/-- XOR L, R147. -/
def exec_xor_l (s : State) : Result := .next (aluOp .xor (.reg .l) s)

/-- XOR (HL), R148. -/
def exec_xor_mHL (s : State) : Result := .next (aluOp .xor .mem s)

/-- XOR A, R147. -/
def exec_xor_a (s : State) : Result := .next (aluOp .xor (.reg .a) s)

/-- OR B, R150. -/
def exec_or_b (s : State) : Result := .next (aluOp .or (.reg .b) s)

/-- OR C, R150. -/
def exec_or_c (s : State) : Result := .next (aluOp .or (.reg .c) s)

/-- OR D, R150. -/
def exec_or_d (s : State) : Result := .next (aluOp .or (.reg .d) s)

/-- OR E, R150. -/
def exec_or_e (s : State) : Result := .next (aluOp .or (.reg .e) s)

/-- OR H, R150. -/
def exec_or_h (s : State) : Result := .next (aluOp .or (.reg .h) s)

/-- OR L, R150. -/
def exec_or_l (s : State) : Result := .next (aluOp .or (.reg .l) s)

/-- OR (HL), R151. -/
def exec_or_mHL (s : State) : Result := .next (aluOp .or .mem s)

/-- OR A, R150. -/
def exec_or_a (s : State) : Result := .next (aluOp .or (.reg .a) s)

/-- CP B, R153. -/
def exec_cp_b (s : State) : Result := .next (aluOp .cp (.reg .b) s)

/-- CP C, R153. -/
def exec_cp_c (s : State) : Result := .next (aluOp .cp (.reg .c) s)

/-- CP D, R153. -/
def exec_cp_d (s : State) : Result := .next (aluOp .cp (.reg .d) s)

/-- CP E, R153. -/
def exec_cp_e (s : State) : Result := .next (aluOp .cp (.reg .e) s)

/-- CP H, R153. -/
def exec_cp_h (s : State) : Result := .next (aluOp .cp (.reg .h) s)

/-- CP L, R153. -/
def exec_cp_l (s : State) : Result := .next (aluOp .cp (.reg .l) s)

/-- CP (HL), R154. -/
def exec_cp_mHL (s : State) : Result := .next (aluOp .cp .mem s)

/-- CP A, R153. -/
def exec_cp_a (s : State) : Result := .next (aluOp .cp (.reg .a) s)

/-- ADD A,d8, R134. -/
def exec_add_a_d8 (d8 : Byte) (s : State) : Result := .next (aluOp .add (.imm d8) s)

/-- ADC A,d8, R137. -/
def exec_adc_a_d8 (d8 : Byte) (s : State) : Result := .next (aluOp .adc (.imm d8) s)

/-- SUB d8, R140. -/
def exec_sub_d8 (d8 : Byte) (s : State) : Result := .next (aluOp .sub (.imm d8) s)

/-- SBC A,d8, R143. -/
def exec_sbc_a_d8 (d8 : Byte) (s : State) : Result := .next (aluOp .sbc (.imm d8) s)

/-- AND d8, R146. -/
def exec_and_d8 (d8 : Byte) (s : State) : Result := .next (aluOp .and (.imm d8) s)

/-- XOR d8, R149. -/
def exec_xor_d8 (d8 : Byte) (s : State) : Result := .next (aluOp .xor (.imm d8) s)

/-- OR d8, R152. -/
def exec_or_d8 (d8 : Byte) (s : State) : Result := .next (aluOp .or (.imm d8) s)

/-- CP d8, R155. -/
def exec_cp_d8 (d8 : Byte) (s : State) : Result := .next (aluOp .cp (.imm d8) s)

end Sys2Proof.Machine
end

