-- ==== Sys2Proof/Machine/Bit.lean ====
section
/-! DEFINITION. Bit operations (45_bit.md): BIT, RES and SET of a register or the byte at HL. -/

namespace Sys2Proof.Machine

/-! ## Shared operations -/

/-- BIT b,r (R270): only flags are written. -/
def bitRegOp (b : Index8) (r : Reg8) (s : State) : State :=
  (s.setFlags (bitFlags (s.readReg r) b s.flags)).tick 2

/-- BIT b,(HL) (R271): one read and no write. -/
def bitMemOp (b : Index8) (s : State) : State :=
  (s.setFlags (bitFlags s.readAtHl b s.flags)).tick 3

/-- RES b,r (R272). -/
def resRegOp (b : Index8) (r : Reg8) (s : State) : State := (s.writeReg r (clearBit (s.readReg r) b)).tick 2

/-- RES b,(HL) (R273). -/
def resMemOp (b : Index8) (s : State) : State := (s.writeAtHl (clearBit s.readAtHl b)).tick 4

/-- SET b,r (R274). -/
def setRegOp (b : Index8) (r : Reg8) (s : State) : State := (s.writeReg r (setBit (s.readReg r) b)).tick 2

/-- SET b,(HL) (R275). -/
def setMemOp (b : Index8) (s : State) : State := (s.writeAtHl (setBit s.readAtHl b)).tick 4

/-! ## The meanings, one per instruction -/

/-- BIT 0,B, R270. -/
def exec_bit_0_b (s : State) : Result := .next (bitRegOp .i0 .b s)

/-- BIT 0,C, R270. -/
def exec_bit_0_c (s : State) : Result := .next (bitRegOp .i0 .c s)

/-- BIT 0,D, R270. -/
def exec_bit_0_d (s : State) : Result := .next (bitRegOp .i0 .d s)

/-- BIT 0,E, R270. -/
def exec_bit_0_e (s : State) : Result := .next (bitRegOp .i0 .e s)

/-- BIT 0,H, R270. -/
def exec_bit_0_h (s : State) : Result := .next (bitRegOp .i0 .h s)

/-- BIT 0,L, R270. -/
def exec_bit_0_l (s : State) : Result := .next (bitRegOp .i0 .l s)

/-- BIT 0,(HL), R271. -/
def exec_bit_0_mHL (s : State) : Result := .next (bitMemOp .i0 s)

/-- BIT 0,A, R270. -/
def exec_bit_0_a (s : State) : Result := .next (bitRegOp .i0 .a s)

/-- BIT 1,B, R270. -/
def exec_bit_1_b (s : State) : Result := .next (bitRegOp .i1 .b s)

/-- BIT 1,C, R270. -/
def exec_bit_1_c (s : State) : Result := .next (bitRegOp .i1 .c s)

/-- BIT 1,D, R270. -/
def exec_bit_1_d (s : State) : Result := .next (bitRegOp .i1 .d s)

/-- BIT 1,E, R270. -/
def exec_bit_1_e (s : State) : Result := .next (bitRegOp .i1 .e s)

/-- BIT 1,H, R270. -/
def exec_bit_1_h (s : State) : Result := .next (bitRegOp .i1 .h s)

/-- BIT 1,L, R270. -/
def exec_bit_1_l (s : State) : Result := .next (bitRegOp .i1 .l s)

/-- BIT 1,(HL), R271. -/
def exec_bit_1_mHL (s : State) : Result := .next (bitMemOp .i1 s)

/-- BIT 1,A, R270. -/
def exec_bit_1_a (s : State) : Result := .next (bitRegOp .i1 .a s)

/-- BIT 2,B, R270. -/
def exec_bit_2_b (s : State) : Result := .next (bitRegOp .i2 .b s)

/-- BIT 2,C, R270. -/
def exec_bit_2_c (s : State) : Result := .next (bitRegOp .i2 .c s)

/-- BIT 2,D, R270. -/
def exec_bit_2_d (s : State) : Result := .next (bitRegOp .i2 .d s)

/-- BIT 2,E, R270. -/
def exec_bit_2_e (s : State) : Result := .next (bitRegOp .i2 .e s)

/-- BIT 2,H, R270. -/
def exec_bit_2_h (s : State) : Result := .next (bitRegOp .i2 .h s)

/-- BIT 2,L, R270. -/
def exec_bit_2_l (s : State) : Result := .next (bitRegOp .i2 .l s)

/-- BIT 2,(HL), R271. -/
def exec_bit_2_mHL (s : State) : Result := .next (bitMemOp .i2 s)

/-- BIT 2,A, R270. -/
def exec_bit_2_a (s : State) : Result := .next (bitRegOp .i2 .a s)

/-- BIT 3,B, R270. -/
def exec_bit_3_b (s : State) : Result := .next (bitRegOp .i3 .b s)

/-- BIT 3,C, R270. -/
def exec_bit_3_c (s : State) : Result := .next (bitRegOp .i3 .c s)

/-- BIT 3,D, R270. -/
def exec_bit_3_d (s : State) : Result := .next (bitRegOp .i3 .d s)

/-- BIT 3,E, R270. -/
def exec_bit_3_e (s : State) : Result := .next (bitRegOp .i3 .e s)

/-- BIT 3,H, R270. -/
def exec_bit_3_h (s : State) : Result := .next (bitRegOp .i3 .h s)

/-- BIT 3,L, R270. -/
def exec_bit_3_l (s : State) : Result := .next (bitRegOp .i3 .l s)

/-- BIT 3,(HL), R271. -/
def exec_bit_3_mHL (s : State) : Result := .next (bitMemOp .i3 s)

/-- BIT 3,A, R270. -/
def exec_bit_3_a (s : State) : Result := .next (bitRegOp .i3 .a s)

/-- BIT 4,B, R270. -/
def exec_bit_4_b (s : State) : Result := .next (bitRegOp .i4 .b s)

/-- BIT 4,C, R270. -/
def exec_bit_4_c (s : State) : Result := .next (bitRegOp .i4 .c s)

/-- BIT 4,D, R270. -/
def exec_bit_4_d (s : State) : Result := .next (bitRegOp .i4 .d s)

/-- BIT 4,E, R270. -/
def exec_bit_4_e (s : State) : Result := .next (bitRegOp .i4 .e s)

/-- BIT 4,H, R270. -/
def exec_bit_4_h (s : State) : Result := .next (bitRegOp .i4 .h s)

/-- BIT 4,L, R270. -/
def exec_bit_4_l (s : State) : Result := .next (bitRegOp .i4 .l s)

/-- BIT 4,(HL), R271. -/
def exec_bit_4_mHL (s : State) : Result := .next (bitMemOp .i4 s)

/-- BIT 4,A, R270. -/
def exec_bit_4_a (s : State) : Result := .next (bitRegOp .i4 .a s)

/-- BIT 5,B, R270. -/
def exec_bit_5_b (s : State) : Result := .next (bitRegOp .i5 .b s)

/-- BIT 5,C, R270. -/
def exec_bit_5_c (s : State) : Result := .next (bitRegOp .i5 .c s)

/-- BIT 5,D, R270. -/
def exec_bit_5_d (s : State) : Result := .next (bitRegOp .i5 .d s)

/-- BIT 5,E, R270. -/
def exec_bit_5_e (s : State) : Result := .next (bitRegOp .i5 .e s)

/-- BIT 5,H, R270. -/
def exec_bit_5_h (s : State) : Result := .next (bitRegOp .i5 .h s)

/-- BIT 5,L, R270. -/
def exec_bit_5_l (s : State) : Result := .next (bitRegOp .i5 .l s)

/-- BIT 5,(HL), R271. -/
def exec_bit_5_mHL (s : State) : Result := .next (bitMemOp .i5 s)

/-- BIT 5,A, R270. -/
def exec_bit_5_a (s : State) : Result := .next (bitRegOp .i5 .a s)

/-- BIT 6,B, R270. -/
def exec_bit_6_b (s : State) : Result := .next (bitRegOp .i6 .b s)

/-- BIT 6,C, R270. -/
def exec_bit_6_c (s : State) : Result := .next (bitRegOp .i6 .c s)

/-- BIT 6,D, R270. -/
def exec_bit_6_d (s : State) : Result := .next (bitRegOp .i6 .d s)

/-- BIT 6,E, R270. -/
def exec_bit_6_e (s : State) : Result := .next (bitRegOp .i6 .e s)

/-- BIT 6,H, R270. -/
def exec_bit_6_h (s : State) : Result := .next (bitRegOp .i6 .h s)

/-- BIT 6,L, R270. -/
def exec_bit_6_l (s : State) : Result := .next (bitRegOp .i6 .l s)

/-- BIT 6,(HL), R271. -/
def exec_bit_6_mHL (s : State) : Result := .next (bitMemOp .i6 s)

/-- BIT 6,A, R270. -/
def exec_bit_6_a (s : State) : Result := .next (bitRegOp .i6 .a s)

/-- BIT 7,B, R270. -/
def exec_bit_7_b (s : State) : Result := .next (bitRegOp .i7 .b s)

/-- BIT 7,C, R270. -/
def exec_bit_7_c (s : State) : Result := .next (bitRegOp .i7 .c s)

/-- BIT 7,D, R270. -/
def exec_bit_7_d (s : State) : Result := .next (bitRegOp .i7 .d s)

/-- BIT 7,E, R270. -/
def exec_bit_7_e (s : State) : Result := .next (bitRegOp .i7 .e s)

/-- BIT 7,H, R270. -/
def exec_bit_7_h (s : State) : Result := .next (bitRegOp .i7 .h s)

/-- BIT 7,L, R270. -/
def exec_bit_7_l (s : State) : Result := .next (bitRegOp .i7 .l s)

/-- BIT 7,(HL), R271. -/
def exec_bit_7_mHL (s : State) : Result := .next (bitMemOp .i7 s)

/-- BIT 7,A, R270. -/
def exec_bit_7_a (s : State) : Result := .next (bitRegOp .i7 .a s)

/-- RES 0,B, R272. -/
def exec_res_0_b (s : State) : Result := .next (resRegOp .i0 .b s)

/-- RES 0,C, R272. -/
def exec_res_0_c (s : State) : Result := .next (resRegOp .i0 .c s)

/-- RES 0,D, R272. -/
def exec_res_0_d (s : State) : Result := .next (resRegOp .i0 .d s)

/-- RES 0,E, R272. -/
def exec_res_0_e (s : State) : Result := .next (resRegOp .i0 .e s)

/-- RES 0,H, R272. -/
def exec_res_0_h (s : State) : Result := .next (resRegOp .i0 .h s)

/-- RES 0,L, R272. -/
def exec_res_0_l (s : State) : Result := .next (resRegOp .i0 .l s)

/-- RES 0,(HL), R273. -/
def exec_res_0_mHL (s : State) : Result := .next (resMemOp .i0 s)

/-- RES 0,A, R272. -/
def exec_res_0_a (s : State) : Result := .next (resRegOp .i0 .a s)

/-- RES 1,B, R272. -/
def exec_res_1_b (s : State) : Result := .next (resRegOp .i1 .b s)

/-- RES 1,C, R272. -/
def exec_res_1_c (s : State) : Result := .next (resRegOp .i1 .c s)

/-- RES 1,D, R272. -/
def exec_res_1_d (s : State) : Result := .next (resRegOp .i1 .d s)

/-- RES 1,E, R272. -/
def exec_res_1_e (s : State) : Result := .next (resRegOp .i1 .e s)

/-- RES 1,H, R272. -/
def exec_res_1_h (s : State) : Result := .next (resRegOp .i1 .h s)

/-- RES 1,L, R272. -/
def exec_res_1_l (s : State) : Result := .next (resRegOp .i1 .l s)

/-- RES 1,(HL), R273. -/
def exec_res_1_mHL (s : State) : Result := .next (resMemOp .i1 s)

/-- RES 1,A, R272. -/
def exec_res_1_a (s : State) : Result := .next (resRegOp .i1 .a s)

/-- RES 2,B, R272. -/
def exec_res_2_b (s : State) : Result := .next (resRegOp .i2 .b s)

/-- RES 2,C, R272. -/
def exec_res_2_c (s : State) : Result := .next (resRegOp .i2 .c s)

/-- RES 2,D, R272. -/
def exec_res_2_d (s : State) : Result := .next (resRegOp .i2 .d s)

/-- RES 2,E, R272. -/
def exec_res_2_e (s : State) : Result := .next (resRegOp .i2 .e s)

/-- RES 2,H, R272. -/
def exec_res_2_h (s : State) : Result := .next (resRegOp .i2 .h s)

/-- RES 2,L, R272. -/
def exec_res_2_l (s : State) : Result := .next (resRegOp .i2 .l s)

/-- RES 2,(HL), R273. -/
def exec_res_2_mHL (s : State) : Result := .next (resMemOp .i2 s)

/-- RES 2,A, R272. -/
def exec_res_2_a (s : State) : Result := .next (resRegOp .i2 .a s)

/-- RES 3,B, R272. -/
def exec_res_3_b (s : State) : Result := .next (resRegOp .i3 .b s)

/-- RES 3,C, R272. -/
def exec_res_3_c (s : State) : Result := .next (resRegOp .i3 .c s)

/-- RES 3,D, R272. -/
def exec_res_3_d (s : State) : Result := .next (resRegOp .i3 .d s)

/-- RES 3,E, R272. -/
def exec_res_3_e (s : State) : Result := .next (resRegOp .i3 .e s)

/-- RES 3,H, R272. -/
def exec_res_3_h (s : State) : Result := .next (resRegOp .i3 .h s)

/-- RES 3,L, R272. -/
def exec_res_3_l (s : State) : Result := .next (resRegOp .i3 .l s)

/-- RES 3,(HL), R273. -/
def exec_res_3_mHL (s : State) : Result := .next (resMemOp .i3 s)

/-- RES 3,A, R272. -/
def exec_res_3_a (s : State) : Result := .next (resRegOp .i3 .a s)

/-- RES 4,B, R272. -/
def exec_res_4_b (s : State) : Result := .next (resRegOp .i4 .b s)

/-- RES 4,C, R272. -/
def exec_res_4_c (s : State) : Result := .next (resRegOp .i4 .c s)

/-- RES 4,D, R272. -/
def exec_res_4_d (s : State) : Result := .next (resRegOp .i4 .d s)

/-- RES 4,E, R272. -/
def exec_res_4_e (s : State) : Result := .next (resRegOp .i4 .e s)

/-- RES 4,H, R272. -/
def exec_res_4_h (s : State) : Result := .next (resRegOp .i4 .h s)

/-- RES 4,L, R272. -/
def exec_res_4_l (s : State) : Result := .next (resRegOp .i4 .l s)

/-- RES 4,(HL), R273. -/
def exec_res_4_mHL (s : State) : Result := .next (resMemOp .i4 s)

/-- RES 4,A, R272. -/
def exec_res_4_a (s : State) : Result := .next (resRegOp .i4 .a s)

/-- RES 5,B, R272. -/
def exec_res_5_b (s : State) : Result := .next (resRegOp .i5 .b s)

/-- RES 5,C, R272. -/
def exec_res_5_c (s : State) : Result := .next (resRegOp .i5 .c s)

/-- RES 5,D, R272. -/
def exec_res_5_d (s : State) : Result := .next (resRegOp .i5 .d s)

/-- RES 5,E, R272. -/
def exec_res_5_e (s : State) : Result := .next (resRegOp .i5 .e s)

/-- RES 5,H, R272. -/
def exec_res_5_h (s : State) : Result := .next (resRegOp .i5 .h s)

/-- RES 5,L, R272. -/
def exec_res_5_l (s : State) : Result := .next (resRegOp .i5 .l s)

/-- RES 5,(HL), R273. -/
def exec_res_5_mHL (s : State) : Result := .next (resMemOp .i5 s)

/-- RES 5,A, R272. -/
def exec_res_5_a (s : State) : Result := .next (resRegOp .i5 .a s)

/-- RES 6,B, R272. -/
def exec_res_6_b (s : State) : Result := .next (resRegOp .i6 .b s)

/-- RES 6,C, R272. -/
def exec_res_6_c (s : State) : Result := .next (resRegOp .i6 .c s)

/-- RES 6,D, R272. -/
def exec_res_6_d (s : State) : Result := .next (resRegOp .i6 .d s)

/-- RES 6,E, R272. -/
def exec_res_6_e (s : State) : Result := .next (resRegOp .i6 .e s)

/-- RES 6,H, R272. -/
def exec_res_6_h (s : State) : Result := .next (resRegOp .i6 .h s)

/-- RES 6,L, R272. -/
def exec_res_6_l (s : State) : Result := .next (resRegOp .i6 .l s)

/-- RES 6,(HL), R273. -/
def exec_res_6_mHL (s : State) : Result := .next (resMemOp .i6 s)

/-- RES 6,A, R272. -/
def exec_res_6_a (s : State) : Result := .next (resRegOp .i6 .a s)

/-- RES 7,B, R272. -/
def exec_res_7_b (s : State) : Result := .next (resRegOp .i7 .b s)

/-- RES 7,C, R272. -/
def exec_res_7_c (s : State) : Result := .next (resRegOp .i7 .c s)

/-- RES 7,D, R272. -/
def exec_res_7_d (s : State) : Result := .next (resRegOp .i7 .d s)

/-- RES 7,E, R272. -/
def exec_res_7_e (s : State) : Result := .next (resRegOp .i7 .e s)

/-- RES 7,H, R272. -/
def exec_res_7_h (s : State) : Result := .next (resRegOp .i7 .h s)

/-- RES 7,L, R272. -/
def exec_res_7_l (s : State) : Result := .next (resRegOp .i7 .l s)

/-- RES 7,(HL), R273. -/
def exec_res_7_mHL (s : State) : Result := .next (resMemOp .i7 s)

/-- RES 7,A, R272. -/
def exec_res_7_a (s : State) : Result := .next (resRegOp .i7 .a s)

/-- SET 0,B, R274. -/
def exec_set_0_b (s : State) : Result := .next (setRegOp .i0 .b s)

/-- SET 0,C, R274. -/
def exec_set_0_c (s : State) : Result := .next (setRegOp .i0 .c s)

/-- SET 0,D, R274. -/
def exec_set_0_d (s : State) : Result := .next (setRegOp .i0 .d s)

/-- SET 0,E, R274. -/
def exec_set_0_e (s : State) : Result := .next (setRegOp .i0 .e s)

/-- SET 0,H, R274. -/
def exec_set_0_h (s : State) : Result := .next (setRegOp .i0 .h s)

/-- SET 0,L, R274. -/
def exec_set_0_l (s : State) : Result := .next (setRegOp .i0 .l s)

/-- SET 0,(HL), R275. -/
def exec_set_0_mHL (s : State) : Result := .next (setMemOp .i0 s)

/-- SET 0,A, R274. -/
def exec_set_0_a (s : State) : Result := .next (setRegOp .i0 .a s)

/-- SET 1,B, R274. -/
def exec_set_1_b (s : State) : Result := .next (setRegOp .i1 .b s)

/-- SET 1,C, R274. -/
def exec_set_1_c (s : State) : Result := .next (setRegOp .i1 .c s)

/-- SET 1,D, R274. -/
def exec_set_1_d (s : State) : Result := .next (setRegOp .i1 .d s)

/-- SET 1,E, R274. -/
def exec_set_1_e (s : State) : Result := .next (setRegOp .i1 .e s)

/-- SET 1,H, R274. -/
def exec_set_1_h (s : State) : Result := .next (setRegOp .i1 .h s)

/-- SET 1,L, R274. -/
def exec_set_1_l (s : State) : Result := .next (setRegOp .i1 .l s)

/-- SET 1,(HL), R275. -/
def exec_set_1_mHL (s : State) : Result := .next (setMemOp .i1 s)

/-- SET 1,A, R274. -/
def exec_set_1_a (s : State) : Result := .next (setRegOp .i1 .a s)

/-- SET 2,B, R274. -/
def exec_set_2_b (s : State) : Result := .next (setRegOp .i2 .b s)

/-- SET 2,C, R274. -/
def exec_set_2_c (s : State) : Result := .next (setRegOp .i2 .c s)

/-- SET 2,D, R274. -/
def exec_set_2_d (s : State) : Result := .next (setRegOp .i2 .d s)

/-- SET 2,E, R274. -/
def exec_set_2_e (s : State) : Result := .next (setRegOp .i2 .e s)

/-- SET 2,H, R274. -/
def exec_set_2_h (s : State) : Result := .next (setRegOp .i2 .h s)

/-- SET 2,L, R274. -/
def exec_set_2_l (s : State) : Result := .next (setRegOp .i2 .l s)

/-- SET 2,(HL), R275. -/
def exec_set_2_mHL (s : State) : Result := .next (setMemOp .i2 s)

/-- SET 2,A, R274. -/
def exec_set_2_a (s : State) : Result := .next (setRegOp .i2 .a s)

/-- SET 3,B, R274. -/
def exec_set_3_b (s : State) : Result := .next (setRegOp .i3 .b s)

/-- SET 3,C, R274. -/
def exec_set_3_c (s : State) : Result := .next (setRegOp .i3 .c s)

/-- SET 3,D, R274. -/
def exec_set_3_d (s : State) : Result := .next (setRegOp .i3 .d s)

/-- SET 3,E, R274. -/
def exec_set_3_e (s : State) : Result := .next (setRegOp .i3 .e s)

/-- SET 3,H, R274. -/
def exec_set_3_h (s : State) : Result := .next (setRegOp .i3 .h s)

/-- SET 3,L, R274. -/
def exec_set_3_l (s : State) : Result := .next (setRegOp .i3 .l s)

/-- SET 3,(HL), R275. -/
def exec_set_3_mHL (s : State) : Result := .next (setMemOp .i3 s)

/-- SET 3,A, R274. -/
def exec_set_3_a (s : State) : Result := .next (setRegOp .i3 .a s)

/-- SET 4,B, R274. -/
def exec_set_4_b (s : State) : Result := .next (setRegOp .i4 .b s)

/-- SET 4,C, R274. -/
def exec_set_4_c (s : State) : Result := .next (setRegOp .i4 .c s)

/-- SET 4,D, R274. -/
def exec_set_4_d (s : State) : Result := .next (setRegOp .i4 .d s)

/-- SET 4,E, R274. -/
def exec_set_4_e (s : State) : Result := .next (setRegOp .i4 .e s)

/-- SET 4,H, R274. -/
def exec_set_4_h (s : State) : Result := .next (setRegOp .i4 .h s)

/-- SET 4,L, R274. -/
def exec_set_4_l (s : State) : Result := .next (setRegOp .i4 .l s)

/-- SET 4,(HL), R275. -/
def exec_set_4_mHL (s : State) : Result := .next (setMemOp .i4 s)

/-- SET 4,A, R274. -/
def exec_set_4_a (s : State) : Result := .next (setRegOp .i4 .a s)

/-- SET 5,B, R274. -/
def exec_set_5_b (s : State) : Result := .next (setRegOp .i5 .b s)

/-- SET 5,C, R274. -/
def exec_set_5_c (s : State) : Result := .next (setRegOp .i5 .c s)

/-- SET 5,D, R274. -/
def exec_set_5_d (s : State) : Result := .next (setRegOp .i5 .d s)

/-- SET 5,E, R274. -/
def exec_set_5_e (s : State) : Result := .next (setRegOp .i5 .e s)

/-- SET 5,H, R274. -/
def exec_set_5_h (s : State) : Result := .next (setRegOp .i5 .h s)

/-- SET 5,L, R274. -/
def exec_set_5_l (s : State) : Result := .next (setRegOp .i5 .l s)

/-- SET 5,(HL), R275. -/
def exec_set_5_mHL (s : State) : Result := .next (setMemOp .i5 s)

/-- SET 5,A, R274. -/
def exec_set_5_a (s : State) : Result := .next (setRegOp .i5 .a s)

/-- SET 6,B, R274. -/
def exec_set_6_b (s : State) : Result := .next (setRegOp .i6 .b s)

/-- SET 6,C, R274. -/
def exec_set_6_c (s : State) : Result := .next (setRegOp .i6 .c s)

/-- SET 6,D, R274. -/
def exec_set_6_d (s : State) : Result := .next (setRegOp .i6 .d s)

/-- SET 6,E, R274. -/
def exec_set_6_e (s : State) : Result := .next (setRegOp .i6 .e s)

/-- SET 6,H, R274. -/
def exec_set_6_h (s : State) : Result := .next (setRegOp .i6 .h s)

/-- SET 6,L, R274. -/
def exec_set_6_l (s : State) : Result := .next (setRegOp .i6 .l s)

/-- SET 6,(HL), R275. -/
def exec_set_6_mHL (s : State) : Result := .next (setMemOp .i6 s)

/-- SET 6,A, R274. -/
def exec_set_6_a (s : State) : Result := .next (setRegOp .i6 .a s)

/-- SET 7,B, R274. -/
def exec_set_7_b (s : State) : Result := .next (setRegOp .i7 .b s)

/-- SET 7,C, R274. -/
def exec_set_7_c (s : State) : Result := .next (setRegOp .i7 .c s)

/-- SET 7,D, R274. -/
def exec_set_7_d (s : State) : Result := .next (setRegOp .i7 .d s)

/-- SET 7,E, R274. -/
def exec_set_7_e (s : State) : Result := .next (setRegOp .i7 .e s)

/-- SET 7,H, R274. -/
def exec_set_7_h (s : State) : Result := .next (setRegOp .i7 .h s)

/-- SET 7,L, R274. -/
def exec_set_7_l (s : State) : Result := .next (setRegOp .i7 .l s)

/-- SET 7,(HL), R275. -/
def exec_set_7_mHL (s : State) : Result := .next (setMemOp .i7 s)

/-- SET 7,A, R274. -/
def exec_set_7_a (s : State) : Result := .next (setRegOp .i7 .a s)

end Sys2Proof.Machine
end

