-- ==== Sys2Proof/Machine/Control.lean ====
section
/-! DEFINITION. Jumps, calls, returns and restarts (43_control.md). On entry `pc` is the address of the next
instruction; a form that is not taken leaves it there (R231). -/

namespace Sys2Proof.Machine

/-! ## Shared operations -/

/-- JP a16 (R220). -/
def jpOp (a16 : Word) (s : State) : State := (s.setPc a16).tick 4

/-- JP cc,a16 (R221). -/
def jpCondOp (cc : Cond) (a16 : Word) (s : State) : State :=
  if s.cond cc then (s.setPc a16).tick 4 else s.tick 3

/-- JP HL (R222): HL itself, not memory at HL. -/
def jpHlOp (s : State) : State := (s.setPc s.hl).tick 1

/-- The target of a relative jump: the address of the next instruction plus the signed offset (R223). -/
def relativeTarget (s : State) (e8 : Byte) : Word := s.pc + e8.signExtend 16

/-- JR e8 (R223). -/
def jrOp (e8 : Byte) (s : State) : State := (s.setPc (relativeTarget s e8)).tick 3

/-- JR cc,e8 (R224). -/
def jrCondOp (cc : Cond) (e8 : Byte) (s : State) : State :=
  if s.cond cc then (s.setPc (relativeTarget s e8)).tick 3 else s.tick 2

/-- Push16(pc), then pc <- target (R225, R230). -/
def callTo (target : Word) (s : State) : State := (s.push16 s.pc).setPc target

/-- CALL a16 (R225). -/
def callOp (a16 : Word) (s : State) : State := (callTo a16 s).tick 6

/-- CALL cc,a16 (R226). -/
def callCondOp (cc : Cond) (a16 : Word) (s : State) : State :=
  if s.cond cc then (callTo a16 s).tick 6 else s.tick 3

/-- RET (R227). -/
def retOp (s : State) : State := s.popPc.tick 4

/-- RET cc (R228). -/
def retCondOp (cc : Cond) (s : State) : State :=
  if s.cond cc then s.popPc.tick 5 else s.tick 2

/-- RETI (R229): the enable is immediate, whatever P_EI_DELAY is. -/
def retiOp (s : State) : State := s.returnFromInterrupt.tick 4

/-- RST t (R230). -/
def rstOp (y : Index8) (s : State) : State := (callTo (restartVector y) s).tick 4

/-! ## The meanings, one per instruction -/

/-- JR e8, R223. -/
def exec_jr_e8 (e8 : Byte) (s : State) : Result := .next (jrOp e8 s)

/-- JR NZ,e8, R224. -/
def exec_jr_nz_e8 (e8 : Byte) (s : State) : Result := .next (jrCondOp .nz e8 s)

/-- JR Z,e8, R224. -/
def exec_jr_z_e8 (e8 : Byte) (s : State) : Result := .next (jrCondOp .z e8 s)

/-- JR NC,e8, R224. -/
def exec_jr_nc_e8 (e8 : Byte) (s : State) : Result := .next (jrCondOp .nc e8 s)

/-- JR C,e8, R224. -/
def exec_jr_c_e8 (e8 : Byte) (s : State) : Result := .next (jrCondOp .c e8 s)

/-- RET NZ, R228. -/
def exec_ret_nz (s : State) : Result := .next (retCondOp .nz s)

/-- JP NZ,a16, R221. -/
def exec_jp_nz_a16 (a16 : Word) (s : State) : Result := .next (jpCondOp .nz a16 s)

/-- JP a16, R220. -/
def exec_jp_a16 (a16 : Word) (s : State) : Result := .next (jpOp a16 s)

/-- CALL NZ,a16, R226. -/
def exec_call_nz_a16 (a16 : Word) (s : State) : Result := .next (callCondOp .nz a16 s)

/-- RST 00h, R230. -/
def exec_rst_00h (s : State) : Result := .next (rstOp .i0 s)

/-- RET Z, R228. -/
def exec_ret_z (s : State) : Result := .next (retCondOp .z s)

/-- RET, R227. -/
def exec_ret (s : State) : Result := .next (retOp s)

/-- JP Z,a16, R221. -/
def exec_jp_z_a16 (a16 : Word) (s : State) : Result := .next (jpCondOp .z a16 s)

/-- CALL Z,a16, R226. -/
def exec_call_z_a16 (a16 : Word) (s : State) : Result := .next (callCondOp .z a16 s)

/-- CALL a16, R225. -/
def exec_call_a16 (a16 : Word) (s : State) : Result := .next (callOp a16 s)

/-- RST 08h, R230. -/
def exec_rst_08h (s : State) : Result := .next (rstOp .i1 s)

/-- RET NC, R228. -/
def exec_ret_nc (s : State) : Result := .next (retCondOp .nc s)

/-- JP NC,a16, R221. -/
def exec_jp_nc_a16 (a16 : Word) (s : State) : Result := .next (jpCondOp .nc a16 s)

/-- CALL NC,a16, R226. -/
def exec_call_nc_a16 (a16 : Word) (s : State) : Result := .next (callCondOp .nc a16 s)

/-- RST 10h, R230. -/
def exec_rst_10h (s : State) : Result := .next (rstOp .i2 s)

/-- RET C, R228. -/
def exec_ret_c (s : State) : Result := .next (retCondOp .c s)

/-- RETI, R229. -/
def exec_reti (s : State) : Result := .next (retiOp s)

/-- JP C,a16, R221. -/
def exec_jp_c_a16 (a16 : Word) (s : State) : Result := .next (jpCondOp .c a16 s)

/-- CALL C,a16, R226. -/
def exec_call_c_a16 (a16 : Word) (s : State) : Result := .next (callCondOp .c a16 s)

/-- RST 18h, R230. -/
def exec_rst_18h (s : State) : Result := .next (rstOp .i3 s)

/-- RST 20h, R230. -/
def exec_rst_20h (s : State) : Result := .next (rstOp .i4 s)

/-- JP HL, R222. -/
def exec_jp_hl (s : State) : Result := .next (jpHlOp s)

/-- RST 28h, R230. -/
def exec_rst_28h (s : State) : Result := .next (rstOp .i5 s)

/-- RST 30h, R230. -/
def exec_rst_30h (s : State) : Result := .next (rstOp .i6 s)

/-- RST 38h, R230. -/
def exec_rst_38h (s : State) : Result := .next (rstOp .i7 s)

end Sys2Proof.Machine
end

