-- ==== Sys2Proof/Machine/Load16.lean ====
section
/-! DEFINITION. The 16-bit loads and the stack instructions (42_loads.md R200 to R205). -/

namespace Sys2Proof.Machine

/-! ## Shared operations -/

/-- LD rr,d16 (R200). -/
def ldPairImmOp (rr : Pair) (d16 : Word) (s : State) : State := (s.writePair rr d16).tick 3

/-- LD (a16),SP (R201). -/
def ldAddrSpOp (a16 : Word) (s : State) : State := (s.write16 a16 s.sp).tick 5

/-- LD SP,HL (R202). -/
def ldSpHlOp (s : State) : State := (s.writeDouble .sp s.hl).tick 2

/-- LD HL,SP+e8 (R203): SP is kept, the flags are ADD SP,e8's. -/
def ldHlSpOp (e8 : Byte) (s : State) : State :=
  let x := addOffset s.sp e8
  ((s.setHl x.1).setFlags x.2).tick 3

/-- PUSH qq (R204). -/
def pushOp (qq : StackPair) (s : State) : State := (s.push16 (s.readStackPair qq)).tick 4

/-- POP qq (R205). -/
def popOp (qq : StackPair) (s : State) : State := (s.pop16.2.writeStackPair qq s.pop16.1).tick 3

/-! ## The meanings, one per instruction -/

/-- LD BC,d16, R200. -/
def exec_ld_bc_d16 (d16 : Word) (s : State) : Result := .next (ldPairImmOp .bc d16 s)

/-- LD (a16),SP, R201. -/
def exec_ld_mA16_sp (a16 : Word) (s : State) : Result := .next (ldAddrSpOp a16 s)

/-- LD DE,d16, R200. -/
def exec_ld_de_d16 (d16 : Word) (s : State) : Result := .next (ldPairImmOp .de d16 s)

/-- LD HL,d16, R200. -/
def exec_ld_hl_d16 (d16 : Word) (s : State) : Result := .next (ldPairImmOp .hl d16 s)

/-- LD SP,d16, R200. -/
def exec_ld_sp_d16 (d16 : Word) (s : State) : Result := .next (ldPairImmOp .sp d16 s)

/-- POP BC, R205. -/
def exec_pop_bc (s : State) : Result := .next (popOp .bc s)

/-- PUSH BC, R204. -/
def exec_push_bc (s : State) : Result := .next (pushOp .bc s)

/-- POP DE, R205. -/
def exec_pop_de (s : State) : Result := .next (popOp .de s)

/-- PUSH DE, R204. -/
def exec_push_de (s : State) : Result := .next (pushOp .de s)

/-- POP HL, R205. -/
def exec_pop_hl (s : State) : Result := .next (popOp .hl s)

/-- PUSH HL, R204. -/
def exec_push_hl (s : State) : Result := .next (pushOp .hl s)

/-- POP AF, R205. -/
def exec_pop_af (s : State) : Result := .next (popOp .af s)

/-- PUSH AF, R204. -/
def exec_push_af (s : State) : Result := .next (pushOp .af s)

/-- LD HL,SP+e8, R203. -/
def exec_ld_hl_sp_e8 (e8 : Byte) (s : State) : Result := .next (ldHlSpOp e8 s)

/-- LD SP,HL, R202. -/
def exec_ld_sp_hl (s : State) : Result := .next (ldSpHlOp s)

end Sys2Proof.Machine
end

