-- ==== Sys2Proof/Machine/Load8.lean ====
section
/-! DEFINITION. The 8-bit loads (42_loads.md R180 to R198). None writes a flag (R199). -/

namespace Sys2Proof.Machine

/-! ## Shared operations -/

/-- LD r,r' (R180). -/
def ldRegRegOp (r r' : Reg8) (s : State) : State := (s.writeReg r (s.readReg r')).tick 1

/-- LD r,d8 (R181). -/
def ldRegImmOp (r : Reg8) (d8 : Byte) (s : State) : State := (s.writeReg r d8).tick 2

/-- LD r,(HL) (R182): the address is the old HL. -/
def ldRegMemOp (r : Reg8) (s : State) : State := (s.writeReg r s.readAtHl).tick 2

/-- LD (HL),r (R183). -/
def ldMemRegOp (r : Reg8) (s : State) : State := (s.writeAtHl (s.readReg r)).tick 2

/-- LD (HL),d8 (R184). -/
def ldMemImmOp (d8 : Byte) (s : State) : State := (s.writeAtHl d8).tick 3

/-- A gets the byte at an address, in n M-cycles. -/
def loadA (addr : Word) (n : Nat) (s : State) : State := (s.writeReg .a (s.readByte addr)).tick n

/-- A is stored at an address, in n M-cycles. -/
def storeA (addr : Word) (n : Nat) (s : State) : State := (s.writeByte addr (s.readReg .a)).tick n

/-- LD A,(BC) (R185). -/
def ldABcOp (s : State) : State := loadA (s.readPair .bc) 2 s

/-- LD A,(DE) (R186). -/
def ldADeOp (s : State) : State := loadA (s.readPair .de) 2 s

/-- LD (BC),A (R187). -/
def ldBcAOp (s : State) : State := storeA (s.readPair .bc) 2 s

/-- LD (DE),A (R188). -/
def ldDeAOp (s : State) : State := storeA (s.readPair .de) 2 s

/-- LD A,(a16) (R189). -/
def ldAAddrOp (a16 : Word) (s : State) : State := loadA a16 4 s

/-- LD (a16),A (R190). -/
def ldAddrAOp (a16 : Word) (s : State) : State := storeA a16 4 s

/-- LDH A,(a8) (R191). -/
def ldhAImmOp (a8 : Byte) (s : State) : State := loadA (highPage a8) 3 s

/-- LDH (a8),A (R192). -/
def ldhImmAOp (a8 : Byte) (s : State) : State := storeA (highPage a8) 3 s

/-- LD A,(C) (R193). -/
def ldACOp (s : State) : State := loadA (highPage (s.readReg .c)) 2 s

/-- LD (C),A (R194). -/
def ldCAOp (s : State) : State := storeA (highPage (s.readReg .c)) 2 s

/-- LD (HL+),A (R195). -/
def ldHlIncAOp (s : State) : State := (storeA s.hl 2 s).setHl (s.hl + 1#16)

/-- LD (HL-),A (R196). -/
def ldHlDecAOp (s : State) : State := (storeA s.hl 2 s).setHl (s.hl - 1#16)

/-- LD A,(HL+) (R197). -/
def ldAHlIncOp (s : State) : State := (loadA s.hl 2 s).setHl (s.hl + 1#16)

/-- LD A,(HL-) (R198). -/
def ldAHlDecOp (s : State) : State := (loadA s.hl 2 s).setHl (s.hl - 1#16)

/-! ## The meanings, one per instruction -/

/-- LD (BC),A, R187. -/
def exec_ld_mBC_a (s : State) : Result := .next (ldBcAOp s)

/-- LD B,d8, R181. -/
def exec_ld_b_d8 (d8 : Byte) (s : State) : Result := .next (ldRegImmOp .b d8 s)

/-- LD A,(BC), R185. -/
def exec_ld_a_mBC (s : State) : Result := .next (ldABcOp s)

/-- LD C,d8, R181. -/
def exec_ld_c_d8 (d8 : Byte) (s : State) : Result := .next (ldRegImmOp .c d8 s)

/-- LD (DE),A, R188. -/
def exec_ld_mDE_a (s : State) : Result := .next (ldDeAOp s)

/-- LD D,d8, R181. -/
def exec_ld_d_d8 (d8 : Byte) (s : State) : Result := .next (ldRegImmOp .d d8 s)

/-- LD A,(DE), R186. -/
def exec_ld_a_mDE (s : State) : Result := .next (ldADeOp s)

/-- LD E,d8, R181. -/
def exec_ld_e_d8 (d8 : Byte) (s : State) : Result := .next (ldRegImmOp .e d8 s)

/-- LD (HL+),A, R195. -/
def exec_ld_mHLinc_a (s : State) : Result := .next (ldHlIncAOp s)

/-- LD H,d8, R181. -/
def exec_ld_h_d8 (d8 : Byte) (s : State) : Result := .next (ldRegImmOp .h d8 s)

/-- LD A,(HL+), R197. -/
def exec_ld_a_mHLinc (s : State) : Result := .next (ldAHlIncOp s)

/-- LD L,d8, R181. -/
def exec_ld_l_d8 (d8 : Byte) (s : State) : Result := .next (ldRegImmOp .l d8 s)

/-- LD (HL-),A, R196. -/
def exec_ld_mHLdec_a (s : State) : Result := .next (ldHlDecAOp s)

/-- LD (HL),d8, R184. -/
def exec_ld_mHL_d8 (d8 : Byte) (s : State) : Result := .next (ldMemImmOp d8 s)

/-- LD A,(HL-), R198. -/
def exec_ld_a_mHLdec (s : State) : Result := .next (ldAHlDecOp s)

/-- LD A,d8, R181. -/
def exec_ld_a_d8 (d8 : Byte) (s : State) : Result := .next (ldRegImmOp .a d8 s)

/-- LD B,B, R180. -/
def exec_ld_b_b (s : State) : Result := .next (ldRegRegOp .b .b s)

/-- LD B,C, R180. -/
def exec_ld_b_c (s : State) : Result := .next (ldRegRegOp .b .c s)

/-- LD B,D, R180. -/
def exec_ld_b_d (s : State) : Result := .next (ldRegRegOp .b .d s)

/-- LD B,E, R180. -/
def exec_ld_b_e (s : State) : Result := .next (ldRegRegOp .b .e s)

/-- LD B,H, R180. -/
def exec_ld_b_h (s : State) : Result := .next (ldRegRegOp .b .h s)

/-- LD B,L, R180. -/
def exec_ld_b_l (s : State) : Result := .next (ldRegRegOp .b .l s)

/-- LD B,(HL), R182. -/
def exec_ld_b_mHL (s : State) : Result := .next (ldRegMemOp .b s)

/-- LD B,A, R180. -/
def exec_ld_b_a (s : State) : Result := .next (ldRegRegOp .b .a s)

/-- LD C,B, R180. -/
def exec_ld_c_b (s : State) : Result := .next (ldRegRegOp .c .b s)

/-- LD C,C, R180. -/
def exec_ld_c_c (s : State) : Result := .next (ldRegRegOp .c .c s)

/-- LD C,D, R180. -/
def exec_ld_c_d (s : State) : Result := .next (ldRegRegOp .c .d s)

/-- LD C,E, R180. -/
def exec_ld_c_e (s : State) : Result := .next (ldRegRegOp .c .e s)

/-- LD C,H, R180. -/
def exec_ld_c_h (s : State) : Result := .next (ldRegRegOp .c .h s)

/-- LD C,L, R180. -/
def exec_ld_c_l (s : State) : Result := .next (ldRegRegOp .c .l s)

/-- LD C,(HL), R182. -/
def exec_ld_c_mHL (s : State) : Result := .next (ldRegMemOp .c s)

/-- LD C,A, R180. -/
def exec_ld_c_a (s : State) : Result := .next (ldRegRegOp .c .a s)

/-- LD D,B, R180. -/
def exec_ld_d_b (s : State) : Result := .next (ldRegRegOp .d .b s)

/-- LD D,C, R180. -/
def exec_ld_d_c (s : State) : Result := .next (ldRegRegOp .d .c s)

/-- LD D,D, R180. -/
def exec_ld_d_d (s : State) : Result := .next (ldRegRegOp .d .d s)

/-- LD D,E, R180. -/
def exec_ld_d_e (s : State) : Result := .next (ldRegRegOp .d .e s)

/-- LD D,H, R180. -/
def exec_ld_d_h (s : State) : Result := .next (ldRegRegOp .d .h s)

/-- LD D,L, R180. -/
def exec_ld_d_l (s : State) : Result := .next (ldRegRegOp .d .l s)

/-- LD D,(HL), R182. -/
def exec_ld_d_mHL (s : State) : Result := .next (ldRegMemOp .d s)

/-- LD D,A, R180. -/
def exec_ld_d_a (s : State) : Result := .next (ldRegRegOp .d .a s)

/-- LD E,B, R180. -/
def exec_ld_e_b (s : State) : Result := .next (ldRegRegOp .e .b s)

/-- LD E,C, R180. -/
def exec_ld_e_c (s : State) : Result := .next (ldRegRegOp .e .c s)

/-- LD E,D, R180. -/
def exec_ld_e_d (s : State) : Result := .next (ldRegRegOp .e .d s)

/-- LD E,E, R180. -/
def exec_ld_e_e (s : State) : Result := .next (ldRegRegOp .e .e s)

/-- LD E,H, R180. -/
def exec_ld_e_h (s : State) : Result := .next (ldRegRegOp .e .h s)

/-- LD E,L, R180. -/
def exec_ld_e_l (s : State) : Result := .next (ldRegRegOp .e .l s)

/-- LD E,(HL), R182. -/
def exec_ld_e_mHL (s : State) : Result := .next (ldRegMemOp .e s)

/-- LD E,A, R180. -/
def exec_ld_e_a (s : State) : Result := .next (ldRegRegOp .e .a s)

/-- LD H,B, R180. -/
def exec_ld_h_b (s : State) : Result := .next (ldRegRegOp .h .b s)

/-- LD H,C, R180. -/
def exec_ld_h_c (s : State) : Result := .next (ldRegRegOp .h .c s)

/-- LD H,D, R180. -/
def exec_ld_h_d (s : State) : Result := .next (ldRegRegOp .h .d s)

/-- LD H,E, R180. -/
def exec_ld_h_e (s : State) : Result := .next (ldRegRegOp .h .e s)

/-- LD H,H, R180. -/
def exec_ld_h_h (s : State) : Result := .next (ldRegRegOp .h .h s)

/-- LD H,L, R180. -/
def exec_ld_h_l (s : State) : Result := .next (ldRegRegOp .h .l s)

/-- LD H,(HL), R182. -/
def exec_ld_h_mHL (s : State) : Result := .next (ldRegMemOp .h s)

/-- LD H,A, R180. -/
def exec_ld_h_a (s : State) : Result := .next (ldRegRegOp .h .a s)

/-- LD L,B, R180. -/
def exec_ld_l_b (s : State) : Result := .next (ldRegRegOp .l .b s)

/-- LD L,C, R180. -/
def exec_ld_l_c (s : State) : Result := .next (ldRegRegOp .l .c s)

/-- LD L,D, R180. -/
def exec_ld_l_d (s : State) : Result := .next (ldRegRegOp .l .d s)

/-- LD L,E, R180. -/
def exec_ld_l_e (s : State) : Result := .next (ldRegRegOp .l .e s)

/-- LD L,H, R180. -/
def exec_ld_l_h (s : State) : Result := .next (ldRegRegOp .l .h s)

/-- LD L,L, R180. -/
def exec_ld_l_l (s : State) : Result := .next (ldRegRegOp .l .l s)

/-- LD L,(HL), R182. -/
def exec_ld_l_mHL (s : State) : Result := .next (ldRegMemOp .l s)

/-- LD L,A, R180. -/
def exec_ld_l_a (s : State) : Result := .next (ldRegRegOp .l .a s)

/-- LD (HL),B, R183. -/
def exec_ld_mHL_b (s : State) : Result := .next (ldMemRegOp .b s)

/-- LD (HL),C, R183. -/
def exec_ld_mHL_c (s : State) : Result := .next (ldMemRegOp .c s)

/-- LD (HL),D, R183. -/
def exec_ld_mHL_d (s : State) : Result := .next (ldMemRegOp .d s)

/-- LD (HL),E, R183. -/
def exec_ld_mHL_e (s : State) : Result := .next (ldMemRegOp .e s)

/-- LD (HL),H, R183. -/
def exec_ld_mHL_h (s : State) : Result := .next (ldMemRegOp .h s)

/-- LD (HL),L, R183. -/
def exec_ld_mHL_l (s : State) : Result := .next (ldMemRegOp .l s)

/-- LD (HL),A, R183. -/
def exec_ld_mHL_a (s : State) : Result := .next (ldMemRegOp .a s)

/-- LD A,B, R180. -/
def exec_ld_a_b (s : State) : Result := .next (ldRegRegOp .a .b s)

/-- LD A,C, R180. -/
def exec_ld_a_c (s : State) : Result := .next (ldRegRegOp .a .c s)

/-- LD A,D, R180. -/
def exec_ld_a_d (s : State) : Result := .next (ldRegRegOp .a .d s)

/-- LD A,E, R180. -/
def exec_ld_a_e (s : State) : Result := .next (ldRegRegOp .a .e s)

/-- LD A,H, R180. -/
def exec_ld_a_h (s : State) : Result := .next (ldRegRegOp .a .h s)

/-- LD A,L, R180. -/
def exec_ld_a_l (s : State) : Result := .next (ldRegRegOp .a .l s)

/-- LD A,(HL), R182. -/
def exec_ld_a_mHL (s : State) : Result := .next (ldRegMemOp .a s)

/-- LD A,A, R180. -/
def exec_ld_a_a (s : State) : Result := .next (ldRegRegOp .a .a s)

/-- LDH (a8),A, R192. -/
def exec_ldh_mA8_a (a8 : Byte) (s : State) : Result := .next (ldhImmAOp a8 s)

/-- LD (C),A, R194. -/
def exec_ld_mC_a (s : State) : Result := .next (ldCAOp s)

/-- LD (a16),A, R190. -/
def exec_ld_mA16_a (a16 : Word) (s : State) : Result := .next (ldAddrAOp a16 s)

/-- LDH A,(a8), R191. -/
def exec_ldh_a_mA8 (a8 : Byte) (s : State) : Result := .next (ldhAImmOp a8 s)

/-- LD A,(C), R193. -/
def exec_ld_a_mC (s : State) : Result := .next (ldACOp s)

/-- LD A,(a16), R189. -/
def exec_ld_a_mA16 (a16 : Word) (s : State) : Result := .next (ldAAddrOp a16 s)

end Sys2Proof.Machine
end

