-- ==== Sys2Proof/Machine/Misc.lean ====
section
/-! DEFINITION. The miscellaneous family (46_misc.md) and the row `(illegal)` (60_exceptions.md R301). -/

namespace Sys2Proof.Machine

/-! ## Shared operations -/

/-- NOP (R280). -/
def nopOp (s : State) : State := s.tick 1

/-- HALT (R281). -/
def haltOp (s : State) : State := (s.setRun .halted).tick 1

/-- STOP (R282): the second byte is ignored, whatever its value. -/
def stopOp (_b1 : Byte) (s : State) : State := (s.setRun .stopped).tick 1

/-- DI (R283). -/
def diOp (s : State) : State := ((s.setIme false).setPending false).tick 1

/-- EI (R284): at once with P_EI_DELAY = 0; with 1 the enable is left pending (log 17). -/
def eiOp (s : State) : State :=
  match s.params.eiDelay with
  | .zero => (s.setIme true).tick 1
  | .one => (s.setPending true).tick 1

/-- DAA (R285). -/
def daaOp (s : State) : State :=
  let x := daaByte (s.readReg .a) s.flags
  ((s.writeReg .a x.1).setFlags x.2).tick 1

/-- CPL (R286). -/
def cplOp (s : State) : State :=
  ((s.writeReg .a (s.readReg .a ^^^ 0xFF#8)).setFlags { s.flags with n := true, h := true }).tick 1

/-- SCF (R287). -/
def scfOp (s : State) : State := (s.setFlags { s.flags with n := false, h := false, c := true }).tick 1

/-- CCF (R288). -/
def ccfOp (s : State) : State := (s.setFlags { s.flags with n := false, h := false, c := !s.flags.c }).tick 1

/-! ## The meanings, one per instruction -/

/-- NOP, R280. -/
def exec_nop (s : State) : Result := .next (nopOp s)

/-- STOP, R282. -/
def exec_stop (b1 : Byte) (s : State) : Result := .next (stopOp b1 s)

/-- DAA, R285. -/
def exec_daa (s : State) : Result := .next (daaOp s)

/-- CPL, R286. -/
def exec_cpl (s : State) : Result := .next (cplOp s)

/-- SCF, R287. -/
def exec_scf (s : State) : Result := .next (scfOp s)

/-- CCF, R288. -/
def exec_ccf (s : State) : Result := .next (ccfOp s)

/-- HALT, R281. -/
def exec_halt (s : State) : Result := .next (haltOp s)

/-- (illegal), R301, R109: the step ends in UnknownOpcode with no state changed. -/
def exec_illegal (opcode : Byte) (_s : State) : Result := .fault (.unknownOpcode opcode)

/-- DI, R283. -/
def exec_di (s : State) : Result := .next (diOp s)

/-- EI, R284. -/
def exec_ei (s : State) : Result := .next (eiOp s)

end Sys2Proof.Machine
end

