-- ==== Sys2Proof/Machine/Rotate.lean ====
section
/-! DEFINITION. Rotates and shifts (44_rotate_shift.md): the four accumulator forms and the CB-prefixed ones. -/

namespace Sys2Proof.Machine

/-! ## Shared operations -/

/-- An accumulator rotate: as the CB rotate of A, but Z is always 0 (R241 to R244). -/
def accRotate (op : RotOp) (s : State) : State :=
  let x := rotateByte op (s.readReg .a) s.flags.c
  ((s.writeReg .a x.1).setFlags (accRotateFlags x.2)).tick 1

/-- RLCA (R241). -/
def rlcaOp (s : State) : State := accRotate .rlc s

/-- RRCA (R242). -/
def rrcaOp (s : State) : State := accRotate .rrc s

/-- RLA (R243). -/
def rlaOp (s : State) : State := accRotate .rl s

/-- RRA (R244). -/
def rraOp (s : State) : State := accRotate .rr s

/-- A CB rotate or shift of a register (R240, R245 to R259): the carry-in is C before the instruction. -/
def rotRegOp (op : RotOp) (r : Reg8) (s : State) : State :=
  let x := rotateByte op (s.readReg r) s.flags.c
  ((s.writeReg r x.1).setFlags (rotateFlags x.1 x.2)).tick 2

/-- A CB rotate or shift of the byte at HL (R240, R246 to R260): read once, written once. -/
def rotMemOp (op : RotOp) (s : State) : State :=
  let x := rotateByte op s.readAtHl s.flags.c
  ((s.writeAtHl x.1).setFlags (rotateFlags x.1 x.2)).tick 4

/-! ## The meanings, one per instruction -/

/-- RLCA, R241. -/
def exec_rlca (s : State) : Result := .next (rlcaOp s)

/-- RRCA, R242. -/
def exec_rrca (s : State) : Result := .next (rrcaOp s)

/-- RLA, R243. -/
def exec_rla (s : State) : Result := .next (rlaOp s)

/-- RRA, R244. -/
def exec_rra (s : State) : Result := .next (rraOp s)

/-- RLC B, R245. -/
def exec_rlc_b (s : State) : Result := .next (rotRegOp .rlc .b s)

/-- RLC C, R245. -/
def exec_rlc_c (s : State) : Result := .next (rotRegOp .rlc .c s)

/-- RLC D, R245. -/
def exec_rlc_d (s : State) : Result := .next (rotRegOp .rlc .d s)

/-- RLC E, R245. -/
def exec_rlc_e (s : State) : Result := .next (rotRegOp .rlc .e s)

/-- RLC H, R245. -/
def exec_rlc_h (s : State) : Result := .next (rotRegOp .rlc .h s)

/-- RLC L, R245. -/
def exec_rlc_l (s : State) : Result := .next (rotRegOp .rlc .l s)

/-- RLC (HL), R246. -/
def exec_rlc_mHL (s : State) : Result := .next (rotMemOp .rlc s)

/-- RLC A, R245. -/
def exec_rlc_a (s : State) : Result := .next (rotRegOp .rlc .a s)

/-- RRC B, R247. -/
def exec_rrc_b (s : State) : Result := .next (rotRegOp .rrc .b s)

/-- RRC C, R247. -/
def exec_rrc_c (s : State) : Result := .next (rotRegOp .rrc .c s)

/-- RRC D, R247. -/
def exec_rrc_d (s : State) : Result := .next (rotRegOp .rrc .d s)

/-- RRC E, R247. -/
def exec_rrc_e (s : State) : Result := .next (rotRegOp .rrc .e s)

/-- RRC H, R247. -/
def exec_rrc_h (s : State) : Result := .next (rotRegOp .rrc .h s)

/-- RRC L, R247. -/
def exec_rrc_l (s : State) : Result := .next (rotRegOp .rrc .l s)

/-- RRC (HL), R248. -/
def exec_rrc_mHL (s : State) : Result := .next (rotMemOp .rrc s)

/-- RRC A, R247. -/
def exec_rrc_a (s : State) : Result := .next (rotRegOp .rrc .a s)

/-- RL B, R249. -/
def exec_rl_b (s : State) : Result := .next (rotRegOp .rl .b s)

/-- RL C, R249. -/
def exec_rl_c (s : State) : Result := .next (rotRegOp .rl .c s)

/-- RL D, R249. -/
def exec_rl_d (s : State) : Result := .next (rotRegOp .rl .d s)

/-- RL E, R249. -/
def exec_rl_e (s : State) : Result := .next (rotRegOp .rl .e s)

/-- RL H, R249. -/
def exec_rl_h (s : State) : Result := .next (rotRegOp .rl .h s)

/-- RL L, R249. -/
def exec_rl_l (s : State) : Result := .next (rotRegOp .rl .l s)

/-- RL (HL), R250. -/
def exec_rl_mHL (s : State) : Result := .next (rotMemOp .rl s)

/-- RL A, R249. -/
def exec_rl_a (s : State) : Result := .next (rotRegOp .rl .a s)

/-- RR B, R251. -/
def exec_rr_b (s : State) : Result := .next (rotRegOp .rr .b s)

/-- RR C, R251. -/
def exec_rr_c (s : State) : Result := .next (rotRegOp .rr .c s)

/-- RR D, R251. -/
def exec_rr_d (s : State) : Result := .next (rotRegOp .rr .d s)

/-- RR E, R251. -/
def exec_rr_e (s : State) : Result := .next (rotRegOp .rr .e s)

/-- RR H, R251. -/
def exec_rr_h (s : State) : Result := .next (rotRegOp .rr .h s)

/-- RR L, R251. -/
def exec_rr_l (s : State) : Result := .next (rotRegOp .rr .l s)

/-- RR (HL), R252. -/
def exec_rr_mHL (s : State) : Result := .next (rotMemOp .rr s)

/-- RR A, R251. -/
def exec_rr_a (s : State) : Result := .next (rotRegOp .rr .a s)

/-- SLA B, R253. -/
def exec_sla_b (s : State) : Result := .next (rotRegOp .sla .b s)

/-- SLA C, R253. -/
def exec_sla_c (s : State) : Result := .next (rotRegOp .sla .c s)

/-- SLA D, R253. -/
def exec_sla_d (s : State) : Result := .next (rotRegOp .sla .d s)

/-- SLA E, R253. -/
def exec_sla_e (s : State) : Result := .next (rotRegOp .sla .e s)

/-- SLA H, R253. -/
def exec_sla_h (s : State) : Result := .next (rotRegOp .sla .h s)

/-- SLA L, R253. -/
def exec_sla_l (s : State) : Result := .next (rotRegOp .sla .l s)

/-- SLA (HL), R254. -/
def exec_sla_mHL (s : State) : Result := .next (rotMemOp .sla s)

/-- SLA A, R253. -/
def exec_sla_a (s : State) : Result := .next (rotRegOp .sla .a s)

/-- SRA B, R255. -/
def exec_sra_b (s : State) : Result := .next (rotRegOp .sra .b s)

/-- SRA C, R255. -/
def exec_sra_c (s : State) : Result := .next (rotRegOp .sra .c s)

/-- SRA D, R255. -/
def exec_sra_d (s : State) : Result := .next (rotRegOp .sra .d s)

/-- SRA E, R255. -/
def exec_sra_e (s : State) : Result := .next (rotRegOp .sra .e s)

/-- SRA H, R255. -/
def exec_sra_h (s : State) : Result := .next (rotRegOp .sra .h s)

/-- SRA L, R255. -/
def exec_sra_l (s : State) : Result := .next (rotRegOp .sra .l s)

/-- SRA (HL), R256. -/
def exec_sra_mHL (s : State) : Result := .next (rotMemOp .sra s)

/-- SRA A, R255. -/
def exec_sra_a (s : State) : Result := .next (rotRegOp .sra .a s)

/-- SWAP B, R257. -/
def exec_swap_b (s : State) : Result := .next (rotRegOp .swap .b s)

/-- SWAP C, R257. -/
def exec_swap_c (s : State) : Result := .next (rotRegOp .swap .c s)

/-- SWAP D, R257. -/
def exec_swap_d (s : State) : Result := .next (rotRegOp .swap .d s)

/-- SWAP E, R257. -/
def exec_swap_e (s : State) : Result := .next (rotRegOp .swap .e s)

/-- SWAP H, R257. -/
def exec_swap_h (s : State) : Result := .next (rotRegOp .swap .h s)

/-- SWAP L, R257. -/
def exec_swap_l (s : State) : Result := .next (rotRegOp .swap .l s)

/-- SWAP (HL), R258. -/
def exec_swap_mHL (s : State) : Result := .next (rotMemOp .swap s)

/-- SWAP A, R257. -/
def exec_swap_a (s : State) : Result := .next (rotRegOp .swap .a s)

/-- SRL B, R259. -/
def exec_srl_b (s : State) : Result := .next (rotRegOp .srl .b s)

/-- SRL C, R259. -/
def exec_srl_c (s : State) : Result := .next (rotRegOp .srl .c s)

/-- SRL D, R259. -/
def exec_srl_d (s : State) : Result := .next (rotRegOp .srl .d s)

/-- SRL E, R259. -/
def exec_srl_e (s : State) : Result := .next (rotRegOp .srl .e s)

/-- SRL H, R259. -/
def exec_srl_h (s : State) : Result := .next (rotRegOp .srl .h s)

/-- SRL L, R259. -/
def exec_srl_l (s : State) : Result := .next (rotRegOp .srl .l s)

/-- SRL (HL), R260. -/
def exec_srl_mHL (s : State) : Result := .next (rotMemOp .srl s)

/-- SRL A, R259. -/
def exec_srl_a (s : State) : Result := .next (rotRegOp .srl .a s)

end Sys2Proof.Machine
end

