-- ==== Sys2Proof/Machine/Dispatch.lean ====
section
/-! DEFINITION. One arm per constructor of `Instr`: each instruction's meaning, run at the state whose PC already
addresses the next instruction (30_encoding.md R107). -/

namespace Sys2Proof.Machine

def exec (i : Instr) (s : State) : Host.Outcome State Fault Refusal :=
  match i with
  | .nop => Sys2Proof.Machine.exec_nop s
  | .ld_bc_d16 d16 => Sys2Proof.Machine.exec_ld_bc_d16 d16 s
  | .ld_mBC_a => Sys2Proof.Machine.exec_ld_mBC_a s
  | .inc_bc => Sys2Proof.Machine.exec_inc_bc s
  | .inc_b => Sys2Proof.Machine.exec_inc_b s
  | .dec_b => Sys2Proof.Machine.exec_dec_b s
  | .ld_b_d8 d8 => Sys2Proof.Machine.exec_ld_b_d8 d8 s
  | .rlca => Sys2Proof.Machine.exec_rlca s
  | .ld_mA16_sp a16 => Sys2Proof.Machine.exec_ld_mA16_sp a16 s
  | .add_hl_bc => Sys2Proof.Machine.exec_add_hl_bc s
  | .ld_a_mBC => Sys2Proof.Machine.exec_ld_a_mBC s
  | .dec_bc => Sys2Proof.Machine.exec_dec_bc s
  | .inc_c => Sys2Proof.Machine.exec_inc_c s
  | .dec_c => Sys2Proof.Machine.exec_dec_c s
  | .ld_c_d8 d8 => Sys2Proof.Machine.exec_ld_c_d8 d8 s
  | .rrca => Sys2Proof.Machine.exec_rrca s
  | .stop b1 => Sys2Proof.Machine.exec_stop b1 s
  | .ld_de_d16 d16 => Sys2Proof.Machine.exec_ld_de_d16 d16 s
  | .ld_mDE_a => Sys2Proof.Machine.exec_ld_mDE_a s
  | .inc_de => Sys2Proof.Machine.exec_inc_de s
  | .inc_d => Sys2Proof.Machine.exec_inc_d s
  | .dec_d => Sys2Proof.Machine.exec_dec_d s
  | .ld_d_d8 d8 => Sys2Proof.Machine.exec_ld_d_d8 d8 s
  | .rla => Sys2Proof.Machine.exec_rla s
  | .jr_e8 e8 => Sys2Proof.Machine.exec_jr_e8 e8 s
  | .add_hl_de => Sys2Proof.Machine.exec_add_hl_de s
  | .ld_a_mDE => Sys2Proof.Machine.exec_ld_a_mDE s
  | .dec_de => Sys2Proof.Machine.exec_dec_de s
  | .inc_e => Sys2Proof.Machine.exec_inc_e s
  | .dec_e => Sys2Proof.Machine.exec_dec_e s
  | .ld_e_d8 d8 => Sys2Proof.Machine.exec_ld_e_d8 d8 s
  | .rra => Sys2Proof.Machine.exec_rra s
  | .jr_nz_e8 e8 => Sys2Proof.Machine.exec_jr_nz_e8 e8 s
  | .ld_hl_d16 d16 => Sys2Proof.Machine.exec_ld_hl_d16 d16 s
  | .ld_mHLinc_a => Sys2Proof.Machine.exec_ld_mHLinc_a s
  | .inc_hl => Sys2Proof.Machine.exec_inc_hl s
  | .inc_h => Sys2Proof.Machine.exec_inc_h s
  | .dec_h => Sys2Proof.Machine.exec_dec_h s
  | .ld_h_d8 d8 => Sys2Proof.Machine.exec_ld_h_d8 d8 s
  | .daa => Sys2Proof.Machine.exec_daa s
  | .jr_z_e8 e8 => Sys2Proof.Machine.exec_jr_z_e8 e8 s
  | .add_hl_hl => Sys2Proof.Machine.exec_add_hl_hl s
  | .ld_a_mHLinc => Sys2Proof.Machine.exec_ld_a_mHLinc s
  | .dec_hl => Sys2Proof.Machine.exec_dec_hl s
  | .inc_l => Sys2Proof.Machine.exec_inc_l s
  | .dec_l => Sys2Proof.Machine.exec_dec_l s
  | .ld_l_d8 d8 => Sys2Proof.Machine.exec_ld_l_d8 d8 s
  | .cpl => Sys2Proof.Machine.exec_cpl s
  | .jr_nc_e8 e8 => Sys2Proof.Machine.exec_jr_nc_e8 e8 s
  | .ld_sp_d16 d16 => Sys2Proof.Machine.exec_ld_sp_d16 d16 s
  | .ld_mHLdec_a => Sys2Proof.Machine.exec_ld_mHLdec_a s
  | .inc_sp => Sys2Proof.Machine.exec_inc_sp s
  | .inc_mHL => Sys2Proof.Machine.exec_inc_mHL s
  | .dec_mHL => Sys2Proof.Machine.exec_dec_mHL s
  | .ld_mHL_d8 d8 => Sys2Proof.Machine.exec_ld_mHL_d8 d8 s
  | .scf => Sys2Proof.Machine.exec_scf s
  | .jr_c_e8 e8 => Sys2Proof.Machine.exec_jr_c_e8 e8 s
  | .add_hl_sp => Sys2Proof.Machine.exec_add_hl_sp s
  | .ld_a_mHLdec => Sys2Proof.Machine.exec_ld_a_mHLdec s
  | .dec_sp => Sys2Proof.Machine.exec_dec_sp s
  | .inc_a => Sys2Proof.Machine.exec_inc_a s
  | .dec_a => Sys2Proof.Machine.exec_dec_a s
  | .ld_a_d8 d8 => Sys2Proof.Machine.exec_ld_a_d8 d8 s
  | .ccf => Sys2Proof.Machine.exec_ccf s
  | .ld_b_b => Sys2Proof.Machine.exec_ld_b_b s
  | .ld_b_c => Sys2Proof.Machine.exec_ld_b_c s
  | .ld_b_d => Sys2Proof.Machine.exec_ld_b_d s
  | .ld_b_e => Sys2Proof.Machine.exec_ld_b_e s
  | .ld_b_h => Sys2Proof.Machine.exec_ld_b_h s
  | .ld_b_l => Sys2Proof.Machine.exec_ld_b_l s
  | .ld_b_mHL => Sys2Proof.Machine.exec_ld_b_mHL s
  | .ld_b_a => Sys2Proof.Machine.exec_ld_b_a s
  | .ld_c_b => Sys2Proof.Machine.exec_ld_c_b s
  | .ld_c_c => Sys2Proof.Machine.exec_ld_c_c s
  | .ld_c_d => Sys2Proof.Machine.exec_ld_c_d s
  | .ld_c_e => Sys2Proof.Machine.exec_ld_c_e s
  | .ld_c_h => Sys2Proof.Machine.exec_ld_c_h s
  | .ld_c_l => Sys2Proof.Machine.exec_ld_c_l s
  | .ld_c_mHL => Sys2Proof.Machine.exec_ld_c_mHL s
  | .ld_c_a => Sys2Proof.Machine.exec_ld_c_a s
  | .ld_d_b => Sys2Proof.Machine.exec_ld_d_b s
  | .ld_d_c => Sys2Proof.Machine.exec_ld_d_c s
  | .ld_d_d => Sys2Proof.Machine.exec_ld_d_d s
  | .ld_d_e => Sys2Proof.Machine.exec_ld_d_e s
  | .ld_d_h => Sys2Proof.Machine.exec_ld_d_h s
  | .ld_d_l => Sys2Proof.Machine.exec_ld_d_l s
  | .ld_d_mHL => Sys2Proof.Machine.exec_ld_d_mHL s
  | .ld_d_a => Sys2Proof.Machine.exec_ld_d_a s
  | .ld_e_b => Sys2Proof.Machine.exec_ld_e_b s
  | .ld_e_c => Sys2Proof.Machine.exec_ld_e_c s
  | .ld_e_d => Sys2Proof.Machine.exec_ld_e_d s
  | .ld_e_e => Sys2Proof.Machine.exec_ld_e_e s
  | .ld_e_h => Sys2Proof.Machine.exec_ld_e_h s
  | .ld_e_l => Sys2Proof.Machine.exec_ld_e_l s
  | .ld_e_mHL => Sys2Proof.Machine.exec_ld_e_mHL s
  | .ld_e_a => Sys2Proof.Machine.exec_ld_e_a s
  | .ld_h_b => Sys2Proof.Machine.exec_ld_h_b s
  | .ld_h_c => Sys2Proof.Machine.exec_ld_h_c s
  | .ld_h_d => Sys2Proof.Machine.exec_ld_h_d s
  | .ld_h_e => Sys2Proof.Machine.exec_ld_h_e s
  | .ld_h_h => Sys2Proof.Machine.exec_ld_h_h s
  | .ld_h_l => Sys2Proof.Machine.exec_ld_h_l s
  | .ld_h_mHL => Sys2Proof.Machine.exec_ld_h_mHL s
  | .ld_h_a => Sys2Proof.Machine.exec_ld_h_a s
  | .ld_l_b => Sys2Proof.Machine.exec_ld_l_b s
  | .ld_l_c => Sys2Proof.Machine.exec_ld_l_c s
  | .ld_l_d => Sys2Proof.Machine.exec_ld_l_d s
  | .ld_l_e => Sys2Proof.Machine.exec_ld_l_e s
  | .ld_l_h => Sys2Proof.Machine.exec_ld_l_h s
  | .ld_l_l => Sys2Proof.Machine.exec_ld_l_l s
  | .ld_l_mHL => Sys2Proof.Machine.exec_ld_l_mHL s
  | .ld_l_a => Sys2Proof.Machine.exec_ld_l_a s
  | .ld_mHL_b => Sys2Proof.Machine.exec_ld_mHL_b s
  | .ld_mHL_c => Sys2Proof.Machine.exec_ld_mHL_c s
  | .ld_mHL_d => Sys2Proof.Machine.exec_ld_mHL_d s
  | .ld_mHL_e => Sys2Proof.Machine.exec_ld_mHL_e s
  | .ld_mHL_h => Sys2Proof.Machine.exec_ld_mHL_h s
  | .ld_mHL_l => Sys2Proof.Machine.exec_ld_mHL_l s
  | .halt => Sys2Proof.Machine.exec_halt s
  | .ld_mHL_a => Sys2Proof.Machine.exec_ld_mHL_a s
  | .ld_a_b => Sys2Proof.Machine.exec_ld_a_b s
  | .ld_a_c => Sys2Proof.Machine.exec_ld_a_c s
  | .ld_a_d => Sys2Proof.Machine.exec_ld_a_d s
  | .ld_a_e => Sys2Proof.Machine.exec_ld_a_e s
  | .ld_a_h => Sys2Proof.Machine.exec_ld_a_h s
  | .ld_a_l => Sys2Proof.Machine.exec_ld_a_l s
  | .ld_a_mHL => Sys2Proof.Machine.exec_ld_a_mHL s
  | .ld_a_a => Sys2Proof.Machine.exec_ld_a_a s
  | .add_a_b => Sys2Proof.Machine.exec_add_a_b s
  | .add_a_c => Sys2Proof.Machine.exec_add_a_c s
  | .add_a_d => Sys2Proof.Machine.exec_add_a_d s
  | .add_a_e => Sys2Proof.Machine.exec_add_a_e s
  | .add_a_h => Sys2Proof.Machine.exec_add_a_h s
  | .add_a_l => Sys2Proof.Machine.exec_add_a_l s
  | .add_a_mHL => Sys2Proof.Machine.exec_add_a_mHL s
  | .add_a_a => Sys2Proof.Machine.exec_add_a_a s
  | .adc_a_b => Sys2Proof.Machine.exec_adc_a_b s
  | .adc_a_c => Sys2Proof.Machine.exec_adc_a_c s
  | .adc_a_d => Sys2Proof.Machine.exec_adc_a_d s
  | .adc_a_e => Sys2Proof.Machine.exec_adc_a_e s
  | .adc_a_h => Sys2Proof.Machine.exec_adc_a_h s
  | .adc_a_l => Sys2Proof.Machine.exec_adc_a_l s
  | .adc_a_mHL => Sys2Proof.Machine.exec_adc_a_mHL s
  | .adc_a_a => Sys2Proof.Machine.exec_adc_a_a s
  | .sub_b => Sys2Proof.Machine.exec_sub_b s
  | .sub_c => Sys2Proof.Machine.exec_sub_c s
  | .sub_d => Sys2Proof.Machine.exec_sub_d s
  | .sub_e => Sys2Proof.Machine.exec_sub_e s
  | .sub_h => Sys2Proof.Machine.exec_sub_h s
  | .sub_l => Sys2Proof.Machine.exec_sub_l s
  | .sub_mHL => Sys2Proof.Machine.exec_sub_mHL s
  | .sub_a => Sys2Proof.Machine.exec_sub_a s
  | .sbc_a_b => Sys2Proof.Machine.exec_sbc_a_b s
  | .sbc_a_c => Sys2Proof.Machine.exec_sbc_a_c s
  | .sbc_a_d => Sys2Proof.Machine.exec_sbc_a_d s
  | .sbc_a_e => Sys2Proof.Machine.exec_sbc_a_e s
  | .sbc_a_h => Sys2Proof.Machine.exec_sbc_a_h s
  | .sbc_a_l => Sys2Proof.Machine.exec_sbc_a_l s
  | .sbc_a_mHL => Sys2Proof.Machine.exec_sbc_a_mHL s
  | .sbc_a_a => Sys2Proof.Machine.exec_sbc_a_a s
  | .and_b => Sys2Proof.Machine.exec_and_b s
  | .and_c => Sys2Proof.Machine.exec_and_c s
  | .and_d => Sys2Proof.Machine.exec_and_d s
  | .and_e => Sys2Proof.Machine.exec_and_e s
  | .and_h => Sys2Proof.Machine.exec_and_h s
  | .and_l => Sys2Proof.Machine.exec_and_l s
  | .and_mHL => Sys2Proof.Machine.exec_and_mHL s
  | .and_a => Sys2Proof.Machine.exec_and_a s
  | .xor_b => Sys2Proof.Machine.exec_xor_b s
  | .xor_c => Sys2Proof.Machine.exec_xor_c s
  | .xor_d => Sys2Proof.Machine.exec_xor_d s
  | .xor_e => Sys2Proof.Machine.exec_xor_e s
  | .xor_h => Sys2Proof.Machine.exec_xor_h s
  | .xor_l => Sys2Proof.Machine.exec_xor_l s
  | .xor_mHL => Sys2Proof.Machine.exec_xor_mHL s
  | .xor_a => Sys2Proof.Machine.exec_xor_a s
  | .or_b => Sys2Proof.Machine.exec_or_b s
  | .or_c => Sys2Proof.Machine.exec_or_c s
  | .or_d => Sys2Proof.Machine.exec_or_d s
  | .or_e => Sys2Proof.Machine.exec_or_e s
  | .or_h => Sys2Proof.Machine.exec_or_h s
  | .or_l => Sys2Proof.Machine.exec_or_l s
  | .or_mHL => Sys2Proof.Machine.exec_or_mHL s
  | .or_a => Sys2Proof.Machine.exec_or_a s
  | .cp_b => Sys2Proof.Machine.exec_cp_b s
  | .cp_c => Sys2Proof.Machine.exec_cp_c s
  | .cp_d => Sys2Proof.Machine.exec_cp_d s
  | .cp_e => Sys2Proof.Machine.exec_cp_e s
  | .cp_h => Sys2Proof.Machine.exec_cp_h s
  | .cp_l => Sys2Proof.Machine.exec_cp_l s
  | .cp_mHL => Sys2Proof.Machine.exec_cp_mHL s
  | .cp_a => Sys2Proof.Machine.exec_cp_a s
  | .ret_nz => Sys2Proof.Machine.exec_ret_nz s
  | .pop_bc => Sys2Proof.Machine.exec_pop_bc s
  | .jp_nz_a16 a16 => Sys2Proof.Machine.exec_jp_nz_a16 a16 s
  | .jp_a16 a16 => Sys2Proof.Machine.exec_jp_a16 a16 s
  | .call_nz_a16 a16 => Sys2Proof.Machine.exec_call_nz_a16 a16 s
  | .push_bc => Sys2Proof.Machine.exec_push_bc s
  | .add_a_d8 d8 => Sys2Proof.Machine.exec_add_a_d8 d8 s
  | .rst_00h => Sys2Proof.Machine.exec_rst_00h s
  | .ret_z => Sys2Proof.Machine.exec_ret_z s
  | .ret => Sys2Proof.Machine.exec_ret s
  | .jp_z_a16 a16 => Sys2Proof.Machine.exec_jp_z_a16 a16 s
  | .call_z_a16 a16 => Sys2Proof.Machine.exec_call_z_a16 a16 s
  | .call_a16 a16 => Sys2Proof.Machine.exec_call_a16 a16 s
  | .adc_a_d8 d8 => Sys2Proof.Machine.exec_adc_a_d8 d8 s
  | .rst_08h => Sys2Proof.Machine.exec_rst_08h s
  | .ret_nc => Sys2Proof.Machine.exec_ret_nc s
  | .pop_de => Sys2Proof.Machine.exec_pop_de s
  | .jp_nc_a16 a16 => Sys2Proof.Machine.exec_jp_nc_a16 a16 s
  | .illegal opcode => Sys2Proof.Machine.exec_illegal opcode s
  | .call_nc_a16 a16 => Sys2Proof.Machine.exec_call_nc_a16 a16 s
  | .push_de => Sys2Proof.Machine.exec_push_de s
  | .sub_d8 d8 => Sys2Proof.Machine.exec_sub_d8 d8 s
  | .rst_10h => Sys2Proof.Machine.exec_rst_10h s
  | .ret_c => Sys2Proof.Machine.exec_ret_c s
  | .reti => Sys2Proof.Machine.exec_reti s
  | .jp_c_a16 a16 => Sys2Proof.Machine.exec_jp_c_a16 a16 s
  | .call_c_a16 a16 => Sys2Proof.Machine.exec_call_c_a16 a16 s
  | .sbc_a_d8 d8 => Sys2Proof.Machine.exec_sbc_a_d8 d8 s
  | .rst_18h => Sys2Proof.Machine.exec_rst_18h s
  | .ldh_mA8_a a8 => Sys2Proof.Machine.exec_ldh_mA8_a a8 s
  | .pop_hl => Sys2Proof.Machine.exec_pop_hl s
  | .ld_mC_a => Sys2Proof.Machine.exec_ld_mC_a s
  | .push_hl => Sys2Proof.Machine.exec_push_hl s
  | .and_d8 d8 => Sys2Proof.Machine.exec_and_d8 d8 s
  | .rst_20h => Sys2Proof.Machine.exec_rst_20h s
  | .add_sp_e8 e8 => Sys2Proof.Machine.exec_add_sp_e8 e8 s
  | .jp_hl => Sys2Proof.Machine.exec_jp_hl s
  | .ld_mA16_a a16 => Sys2Proof.Machine.exec_ld_mA16_a a16 s
  | .xor_d8 d8 => Sys2Proof.Machine.exec_xor_d8 d8 s
  | .rst_28h => Sys2Proof.Machine.exec_rst_28h s
  | .ldh_a_mA8 a8 => Sys2Proof.Machine.exec_ldh_a_mA8 a8 s
  | .pop_af => Sys2Proof.Machine.exec_pop_af s
  | .ld_a_mC => Sys2Proof.Machine.exec_ld_a_mC s
  | .di => Sys2Proof.Machine.exec_di s
  | .push_af => Sys2Proof.Machine.exec_push_af s
  | .or_d8 d8 => Sys2Proof.Machine.exec_or_d8 d8 s
  | .rst_30h => Sys2Proof.Machine.exec_rst_30h s
  | .ld_hl_sp_e8 e8 => Sys2Proof.Machine.exec_ld_hl_sp_e8 e8 s
  | .ld_sp_hl => Sys2Proof.Machine.exec_ld_sp_hl s
  | .ld_a_mA16 a16 => Sys2Proof.Machine.exec_ld_a_mA16 a16 s
  | .ei => Sys2Proof.Machine.exec_ei s
  | .cp_d8 d8 => Sys2Proof.Machine.exec_cp_d8 d8 s
  | .rst_38h => Sys2Proof.Machine.exec_rst_38h s
  | .rlc_b => Sys2Proof.Machine.exec_rlc_b s
  | .rlc_c => Sys2Proof.Machine.exec_rlc_c s
  | .rlc_d => Sys2Proof.Machine.exec_rlc_d s
  | .rlc_e => Sys2Proof.Machine.exec_rlc_e s
  | .rlc_h => Sys2Proof.Machine.exec_rlc_h s
  | .rlc_l => Sys2Proof.Machine.exec_rlc_l s
  | .rlc_mHL => Sys2Proof.Machine.exec_rlc_mHL s
  | .rlc_a => Sys2Proof.Machine.exec_rlc_a s
  | .rrc_b => Sys2Proof.Machine.exec_rrc_b s
  | .rrc_c => Sys2Proof.Machine.exec_rrc_c s
  | .rrc_d => Sys2Proof.Machine.exec_rrc_d s
  | .rrc_e => Sys2Proof.Machine.exec_rrc_e s
  | .rrc_h => Sys2Proof.Machine.exec_rrc_h s
  | .rrc_l => Sys2Proof.Machine.exec_rrc_l s
  | .rrc_mHL => Sys2Proof.Machine.exec_rrc_mHL s
  | .rrc_a => Sys2Proof.Machine.exec_rrc_a s
  | .rl_b => Sys2Proof.Machine.exec_rl_b s
  | .rl_c => Sys2Proof.Machine.exec_rl_c s
  | .rl_d => Sys2Proof.Machine.exec_rl_d s
  | .rl_e => Sys2Proof.Machine.exec_rl_e s
  | .rl_h => Sys2Proof.Machine.exec_rl_h s
  | .rl_l => Sys2Proof.Machine.exec_rl_l s
  | .rl_mHL => Sys2Proof.Machine.exec_rl_mHL s
  | .rl_a => Sys2Proof.Machine.exec_rl_a s
  | .rr_b => Sys2Proof.Machine.exec_rr_b s
  | .rr_c => Sys2Proof.Machine.exec_rr_c s
  | .rr_d => Sys2Proof.Machine.exec_rr_d s
  | .rr_e => Sys2Proof.Machine.exec_rr_e s
  | .rr_h => Sys2Proof.Machine.exec_rr_h s
  | .rr_l => Sys2Proof.Machine.exec_rr_l s
  | .rr_mHL => Sys2Proof.Machine.exec_rr_mHL s
  | .rr_a => Sys2Proof.Machine.exec_rr_a s
  | .sla_b => Sys2Proof.Machine.exec_sla_b s
  | .sla_c => Sys2Proof.Machine.exec_sla_c s
  | .sla_d => Sys2Proof.Machine.exec_sla_d s
  | .sla_e => Sys2Proof.Machine.exec_sla_e s
  | .sla_h => Sys2Proof.Machine.exec_sla_h s
  | .sla_l => Sys2Proof.Machine.exec_sla_l s
  | .sla_mHL => Sys2Proof.Machine.exec_sla_mHL s
  | .sla_a => Sys2Proof.Machine.exec_sla_a s
  | .sra_b => Sys2Proof.Machine.exec_sra_b s
  | .sra_c => Sys2Proof.Machine.exec_sra_c s
  | .sra_d => Sys2Proof.Machine.exec_sra_d s
  | .sra_e => Sys2Proof.Machine.exec_sra_e s
  | .sra_h => Sys2Proof.Machine.exec_sra_h s
  | .sra_l => Sys2Proof.Machine.exec_sra_l s
  | .sra_mHL => Sys2Proof.Machine.exec_sra_mHL s
  | .sra_a => Sys2Proof.Machine.exec_sra_a s
  | .swap_b => Sys2Proof.Machine.exec_swap_b s
  | .swap_c => Sys2Proof.Machine.exec_swap_c s
  | .swap_d => Sys2Proof.Machine.exec_swap_d s
  | .swap_e => Sys2Proof.Machine.exec_swap_e s
  | .swap_h => Sys2Proof.Machine.exec_swap_h s
  | .swap_l => Sys2Proof.Machine.exec_swap_l s
  | .swap_mHL => Sys2Proof.Machine.exec_swap_mHL s
  | .swap_a => Sys2Proof.Machine.exec_swap_a s
  | .srl_b => Sys2Proof.Machine.exec_srl_b s
  | .srl_c => Sys2Proof.Machine.exec_srl_c s
  | .srl_d => Sys2Proof.Machine.exec_srl_d s
  | .srl_e => Sys2Proof.Machine.exec_srl_e s
  | .srl_h => Sys2Proof.Machine.exec_srl_h s
  | .srl_l => Sys2Proof.Machine.exec_srl_l s
  | .srl_mHL => Sys2Proof.Machine.exec_srl_mHL s
  | .srl_a => Sys2Proof.Machine.exec_srl_a s
  | .bit_0_b => Sys2Proof.Machine.exec_bit_0_b s
  | .bit_0_c => Sys2Proof.Machine.exec_bit_0_c s
  | .bit_0_d => Sys2Proof.Machine.exec_bit_0_d s
  | .bit_0_e => Sys2Proof.Machine.exec_bit_0_e s
  | .bit_0_h => Sys2Proof.Machine.exec_bit_0_h s
  | .bit_0_l => Sys2Proof.Machine.exec_bit_0_l s
  | .bit_0_mHL => Sys2Proof.Machine.exec_bit_0_mHL s
  | .bit_0_a => Sys2Proof.Machine.exec_bit_0_a s
  | .bit_1_b => Sys2Proof.Machine.exec_bit_1_b s
  | .bit_1_c => Sys2Proof.Machine.exec_bit_1_c s
  | .bit_1_d => Sys2Proof.Machine.exec_bit_1_d s
  | .bit_1_e => Sys2Proof.Machine.exec_bit_1_e s
  | .bit_1_h => Sys2Proof.Machine.exec_bit_1_h s
  | .bit_1_l => Sys2Proof.Machine.exec_bit_1_l s
  | .bit_1_mHL => Sys2Proof.Machine.exec_bit_1_mHL s
  | .bit_1_a => Sys2Proof.Machine.exec_bit_1_a s
  | .bit_2_b => Sys2Proof.Machine.exec_bit_2_b s
  | .bit_2_c => Sys2Proof.Machine.exec_bit_2_c s
  | .bit_2_d => Sys2Proof.Machine.exec_bit_2_d s
  | .bit_2_e => Sys2Proof.Machine.exec_bit_2_e s
  | .bit_2_h => Sys2Proof.Machine.exec_bit_2_h s
  | .bit_2_l => Sys2Proof.Machine.exec_bit_2_l s
  | .bit_2_mHL => Sys2Proof.Machine.exec_bit_2_mHL s
  | .bit_2_a => Sys2Proof.Machine.exec_bit_2_a s
  | .bit_3_b => Sys2Proof.Machine.exec_bit_3_b s
  | .bit_3_c => Sys2Proof.Machine.exec_bit_3_c s
  | .bit_3_d => Sys2Proof.Machine.exec_bit_3_d s
  | .bit_3_e => Sys2Proof.Machine.exec_bit_3_e s
  | .bit_3_h => Sys2Proof.Machine.exec_bit_3_h s
  | .bit_3_l => Sys2Proof.Machine.exec_bit_3_l s
  | .bit_3_mHL => Sys2Proof.Machine.exec_bit_3_mHL s
  | .bit_3_a => Sys2Proof.Machine.exec_bit_3_a s
  | .bit_4_b => Sys2Proof.Machine.exec_bit_4_b s
  | .bit_4_c => Sys2Proof.Machine.exec_bit_4_c s
  | .bit_4_d => Sys2Proof.Machine.exec_bit_4_d s
  | .bit_4_e => Sys2Proof.Machine.exec_bit_4_e s
  | .bit_4_h => Sys2Proof.Machine.exec_bit_4_h s
  | .bit_4_l => Sys2Proof.Machine.exec_bit_4_l s
  | .bit_4_mHL => Sys2Proof.Machine.exec_bit_4_mHL s
  | .bit_4_a => Sys2Proof.Machine.exec_bit_4_a s
  | .bit_5_b => Sys2Proof.Machine.exec_bit_5_b s
  | .bit_5_c => Sys2Proof.Machine.exec_bit_5_c s
  | .bit_5_d => Sys2Proof.Machine.exec_bit_5_d s
  | .bit_5_e => Sys2Proof.Machine.exec_bit_5_e s
  | .bit_5_h => Sys2Proof.Machine.exec_bit_5_h s
  | .bit_5_l => Sys2Proof.Machine.exec_bit_5_l s
  | .bit_5_mHL => Sys2Proof.Machine.exec_bit_5_mHL s
  | .bit_5_a => Sys2Proof.Machine.exec_bit_5_a s
  | .bit_6_b => Sys2Proof.Machine.exec_bit_6_b s
  | .bit_6_c => Sys2Proof.Machine.exec_bit_6_c s
  | .bit_6_d => Sys2Proof.Machine.exec_bit_6_d s
  | .bit_6_e => Sys2Proof.Machine.exec_bit_6_e s
  | .bit_6_h => Sys2Proof.Machine.exec_bit_6_h s
  | .bit_6_l => Sys2Proof.Machine.exec_bit_6_l s
  | .bit_6_mHL => Sys2Proof.Machine.exec_bit_6_mHL s
  | .bit_6_a => Sys2Proof.Machine.exec_bit_6_a s
  | .bit_7_b => Sys2Proof.Machine.exec_bit_7_b s
  | .bit_7_c => Sys2Proof.Machine.exec_bit_7_c s
  | .bit_7_d => Sys2Proof.Machine.exec_bit_7_d s
  | .bit_7_e => Sys2Proof.Machine.exec_bit_7_e s
  | .bit_7_h => Sys2Proof.Machine.exec_bit_7_h s
  | .bit_7_l => Sys2Proof.Machine.exec_bit_7_l s
  | .bit_7_mHL => Sys2Proof.Machine.exec_bit_7_mHL s
  | .bit_7_a => Sys2Proof.Machine.exec_bit_7_a s
  | .res_0_b => Sys2Proof.Machine.exec_res_0_b s
  | .res_0_c => Sys2Proof.Machine.exec_res_0_c s
  | .res_0_d => Sys2Proof.Machine.exec_res_0_d s
  | .res_0_e => Sys2Proof.Machine.exec_res_0_e s
  | .res_0_h => Sys2Proof.Machine.exec_res_0_h s
  | .res_0_l => Sys2Proof.Machine.exec_res_0_l s
  | .res_0_mHL => Sys2Proof.Machine.exec_res_0_mHL s
  | .res_0_a => Sys2Proof.Machine.exec_res_0_a s
  | .res_1_b => Sys2Proof.Machine.exec_res_1_b s
  | .res_1_c => Sys2Proof.Machine.exec_res_1_c s
  | .res_1_d => Sys2Proof.Machine.exec_res_1_d s
  | .res_1_e => Sys2Proof.Machine.exec_res_1_e s
  | .res_1_h => Sys2Proof.Machine.exec_res_1_h s
  | .res_1_l => Sys2Proof.Machine.exec_res_1_l s
  | .res_1_mHL => Sys2Proof.Machine.exec_res_1_mHL s
  | .res_1_a => Sys2Proof.Machine.exec_res_1_a s
  | .res_2_b => Sys2Proof.Machine.exec_res_2_b s
  | .res_2_c => Sys2Proof.Machine.exec_res_2_c s
  | .res_2_d => Sys2Proof.Machine.exec_res_2_d s
  | .res_2_e => Sys2Proof.Machine.exec_res_2_e s
  | .res_2_h => Sys2Proof.Machine.exec_res_2_h s
  | .res_2_l => Sys2Proof.Machine.exec_res_2_l s
  | .res_2_mHL => Sys2Proof.Machine.exec_res_2_mHL s
  | .res_2_a => Sys2Proof.Machine.exec_res_2_a s
  | .res_3_b => Sys2Proof.Machine.exec_res_3_b s
  | .res_3_c => Sys2Proof.Machine.exec_res_3_c s
  | .res_3_d => Sys2Proof.Machine.exec_res_3_d s
  | .res_3_e => Sys2Proof.Machine.exec_res_3_e s
  | .res_3_h => Sys2Proof.Machine.exec_res_3_h s
  | .res_3_l => Sys2Proof.Machine.exec_res_3_l s
  | .res_3_mHL => Sys2Proof.Machine.exec_res_3_mHL s
  | .res_3_a => Sys2Proof.Machine.exec_res_3_a s
  | .res_4_b => Sys2Proof.Machine.exec_res_4_b s
  | .res_4_c => Sys2Proof.Machine.exec_res_4_c s
  | .res_4_d => Sys2Proof.Machine.exec_res_4_d s
  | .res_4_e => Sys2Proof.Machine.exec_res_4_e s
  | .res_4_h => Sys2Proof.Machine.exec_res_4_h s
  | .res_4_l => Sys2Proof.Machine.exec_res_4_l s
  | .res_4_mHL => Sys2Proof.Machine.exec_res_4_mHL s
  | .res_4_a => Sys2Proof.Machine.exec_res_4_a s
  | .res_5_b => Sys2Proof.Machine.exec_res_5_b s
  | .res_5_c => Sys2Proof.Machine.exec_res_5_c s
  | .res_5_d => Sys2Proof.Machine.exec_res_5_d s
  | .res_5_e => Sys2Proof.Machine.exec_res_5_e s
  | .res_5_h => Sys2Proof.Machine.exec_res_5_h s
  | .res_5_l => Sys2Proof.Machine.exec_res_5_l s
  | .res_5_mHL => Sys2Proof.Machine.exec_res_5_mHL s
  | .res_5_a => Sys2Proof.Machine.exec_res_5_a s
  | .res_6_b => Sys2Proof.Machine.exec_res_6_b s
  | .res_6_c => Sys2Proof.Machine.exec_res_6_c s
  | .res_6_d => Sys2Proof.Machine.exec_res_6_d s
  | .res_6_e => Sys2Proof.Machine.exec_res_6_e s
  | .res_6_h => Sys2Proof.Machine.exec_res_6_h s
  | .res_6_l => Sys2Proof.Machine.exec_res_6_l s
  | .res_6_mHL => Sys2Proof.Machine.exec_res_6_mHL s
  | .res_6_a => Sys2Proof.Machine.exec_res_6_a s
  | .res_7_b => Sys2Proof.Machine.exec_res_7_b s
  | .res_7_c => Sys2Proof.Machine.exec_res_7_c s
  | .res_7_d => Sys2Proof.Machine.exec_res_7_d s
  | .res_7_e => Sys2Proof.Machine.exec_res_7_e s
  | .res_7_h => Sys2Proof.Machine.exec_res_7_h s
  | .res_7_l => Sys2Proof.Machine.exec_res_7_l s
  | .res_7_mHL => Sys2Proof.Machine.exec_res_7_mHL s
  | .res_7_a => Sys2Proof.Machine.exec_res_7_a s
  | .set_0_b => Sys2Proof.Machine.exec_set_0_b s
  | .set_0_c => Sys2Proof.Machine.exec_set_0_c s
  | .set_0_d => Sys2Proof.Machine.exec_set_0_d s
  | .set_0_e => Sys2Proof.Machine.exec_set_0_e s
  | .set_0_h => Sys2Proof.Machine.exec_set_0_h s
  | .set_0_l => Sys2Proof.Machine.exec_set_0_l s
  | .set_0_mHL => Sys2Proof.Machine.exec_set_0_mHL s
  | .set_0_a => Sys2Proof.Machine.exec_set_0_a s
  | .set_1_b => Sys2Proof.Machine.exec_set_1_b s
  | .set_1_c => Sys2Proof.Machine.exec_set_1_c s
  | .set_1_d => Sys2Proof.Machine.exec_set_1_d s
  | .set_1_e => Sys2Proof.Machine.exec_set_1_e s
  | .set_1_h => Sys2Proof.Machine.exec_set_1_h s
  | .set_1_l => Sys2Proof.Machine.exec_set_1_l s
  | .set_1_mHL => Sys2Proof.Machine.exec_set_1_mHL s
  | .set_1_a => Sys2Proof.Machine.exec_set_1_a s
  | .set_2_b => Sys2Proof.Machine.exec_set_2_b s
  | .set_2_c => Sys2Proof.Machine.exec_set_2_c s
  | .set_2_d => Sys2Proof.Machine.exec_set_2_d s
  | .set_2_e => Sys2Proof.Machine.exec_set_2_e s
  | .set_2_h => Sys2Proof.Machine.exec_set_2_h s
  | .set_2_l => Sys2Proof.Machine.exec_set_2_l s
  | .set_2_mHL => Sys2Proof.Machine.exec_set_2_mHL s
  | .set_2_a => Sys2Proof.Machine.exec_set_2_a s
  | .set_3_b => Sys2Proof.Machine.exec_set_3_b s
  | .set_3_c => Sys2Proof.Machine.exec_set_3_c s
  | .set_3_d => Sys2Proof.Machine.exec_set_3_d s
  | .set_3_e => Sys2Proof.Machine.exec_set_3_e s
  | .set_3_h => Sys2Proof.Machine.exec_set_3_h s
  | .set_3_l => Sys2Proof.Machine.exec_set_3_l s
  | .set_3_mHL => Sys2Proof.Machine.exec_set_3_mHL s
  | .set_3_a => Sys2Proof.Machine.exec_set_3_a s
  | .set_4_b => Sys2Proof.Machine.exec_set_4_b s
  | .set_4_c => Sys2Proof.Machine.exec_set_4_c s
  | .set_4_d => Sys2Proof.Machine.exec_set_4_d s
  | .set_4_e => Sys2Proof.Machine.exec_set_4_e s
  | .set_4_h => Sys2Proof.Machine.exec_set_4_h s
  | .set_4_l => Sys2Proof.Machine.exec_set_4_l s
  | .set_4_mHL => Sys2Proof.Machine.exec_set_4_mHL s
  | .set_4_a => Sys2Proof.Machine.exec_set_4_a s
  | .set_5_b => Sys2Proof.Machine.exec_set_5_b s
  | .set_5_c => Sys2Proof.Machine.exec_set_5_c s
  | .set_5_d => Sys2Proof.Machine.exec_set_5_d s
  | .set_5_e => Sys2Proof.Machine.exec_set_5_e s
  | .set_5_h => Sys2Proof.Machine.exec_set_5_h s
  | .set_5_l => Sys2Proof.Machine.exec_set_5_l s
  | .set_5_mHL => Sys2Proof.Machine.exec_set_5_mHL s
  | .set_5_a => Sys2Proof.Machine.exec_set_5_a s
  | .set_6_b => Sys2Proof.Machine.exec_set_6_b s
  | .set_6_c => Sys2Proof.Machine.exec_set_6_c s
  | .set_6_d => Sys2Proof.Machine.exec_set_6_d s
  | .set_6_e => Sys2Proof.Machine.exec_set_6_e s
  | .set_6_h => Sys2Proof.Machine.exec_set_6_h s
  | .set_6_l => Sys2Proof.Machine.exec_set_6_l s
  | .set_6_mHL => Sys2Proof.Machine.exec_set_6_mHL s
  | .set_6_a => Sys2Proof.Machine.exec_set_6_a s
  | .set_7_b => Sys2Proof.Machine.exec_set_7_b s
  | .set_7_c => Sys2Proof.Machine.exec_set_7_c s
  | .set_7_d => Sys2Proof.Machine.exec_set_7_d s
  | .set_7_e => Sys2Proof.Machine.exec_set_7_e s
  | .set_7_h => Sys2Proof.Machine.exec_set_7_h s
  | .set_7_l => Sys2Proof.Machine.exec_set_7_l s
  | .set_7_mHL => Sys2Proof.Machine.exec_set_7_mHL s
  | .set_7_a => Sys2Proof.Machine.exec_set_7_a s

end Sys2Proof.Machine
end

