-- ==== Sys2Proof/Machine/Step.lean ====
section
/-! DEFINITION. One step of the core (30_encoding.md R107), and how the host places an instruction where the step fetches. -/

namespace Sys2Proof.Machine

/-- One step (R107, R108): idle unless Running; else fetch and decode at PC, advance PC, execute, and complete a
pending EI. An erroring step has no next state (R109). -/
def step (s : State) : Host.Outcome State Fault Refusal :=
  match s.run with
  | .running =>
    match exec (s.fetchDecode s.pc).1 (s.advance (s.fetchDecode s.pc).2) with
    | .next t => .next (State.completeEi s t)
    | .fault e => .fault e
    | .refused r => .refused r
  | .halted => .next s.idle
  | .stopped => .next s.idle

/-- `s` in the Running state with one instruction, numbered as spec/opcode_table.json numbers it, stored from PC on
(log 8). -/
def State.withFetchWord (s : State) (nbits w : Nat) : State :=
  (s.setRun .running).placeBytes s.pc (tableBytes nbits w)

end Sys2Proof.Machine
end

