-- ==== Sys2Proof/Machine/Driver.lean ====
section
/-! DEFINITION. What the outside can do to the core (00_scope.md R11): trigger a step, and between steps drive the wake
input, trigger an interrupt entry, write memory, or use the register-file port. -/

namespace Sys2Proof.Machine

/-- One action of the driver or of the external controller, taken at a step boundary (20_memory.md R73,
60_exceptions.md R311). -/
inductive Event where
  /-- The driver steps the core (30_encoding.md R107). -/
  | step
  /-- The platform drives the wake input (60_exceptions.md R319). -/
  | wake
  /-- The external controller triggers an interrupt entry (60_exceptions.md R308). -/
  | interruptEntry (v : Word)
  /-- An external agent writes a byte of memory (20_memory.md R73, R75). -/
  | memoryWrite (addr : Word) (v : Byte)
  /-- `write_single` of the register-file port (00_scope.md R11). -/
  | writeSingle (r : SingleRegister) (v : Byte)
  /-- `write_double` of the register-file port. -/
  | writeDouble (rr : DoubleRegister) (v : Word)
  /-- `set_flags` of the register-file port. -/
  | setFlags (fs : FlagSet)
  deriving DecidableEq, Repr

/-- The core's answer to an event (log 6). -/
def drive (e : Event) (s : State) : Result :=
  match e with
  | .step => Sys2Proof.Machine.step s
  | .wake => .next s.wake
  | .interruptEntry v => s.interruptEntry v
  | .memoryWrite addr v => .next (s.writeByte addr v)
  | .writeSingle r v => .next (s.writeSingle r v)
  | .writeDouble rr v => .next (s.writeDouble rr v)
  | .setFlags fs => .next (s.setFlags fs)

end Sys2Proof.Machine
end

