-- ==== Sys2Proof/Safety.lean ====
section
/-! DEFINITION. The terms claims are stated in: the invariant of the machine, the states it can reach, the parts of a
state, the frame of an instruction, and what each instruction's rule lets it write and cost. -/

namespace Sys2Proof

/-! ## Operand codes, for statements about encodings -/

/-- The value of a register in an operand field (R93). -/
def Reg8.code : Reg8 → Byte
  | .b => 0#8
  | .c => 1#8
  | .d => 2#8
  | .e => 3#8
  | .h => 4#8
  | .l => 5#8
  | .a => 7#8

/-- The value of a pair in field p (R94). -/
def Pair.code : Pair → Byte
  | .bc => 0#8
  | .de => 1#8
  | .hl => 2#8
  | .sp => 3#8

/-- The value of a stack pair in field p (R94). -/
def StackPair.code : StackPair → Byte
  | .bc => 0#8
  | .de => 1#8
  | .hl => 2#8
  | .af => 3#8

/-- The value of a condition (R95). -/
def Cond.code : Cond → Byte
  | .nz => 0#8
  | .z => 1#8
  | .nc => 2#8
  | .c => 3#8

/-- The value of a rotate or shift operation (R98). -/
def RotOp.code : RotOp → Byte
  | .rlc => 0#8
  | .rrc => 1#8
  | .rl => 2#8
  | .rr => 3#8
  | .sla => 4#8
  | .sra => 5#8
  | .swap => 6#8
  | .srl => 7#8

end Sys2Proof

namespace Sys2Proof.Machine

/-- What holds of every state the core can be in: memory is in canonical form, bits 3..0 of F are zero
(10_state.md R25), and `ime_pending` is set only where it exists (R35). -/
structure Inv (s : State) : Prop where
  memory : s.mem.wf = true
  flagBits : s.f &&& 0x0F#8 = 0#8
  pending : s.params.eiDelay = .zero → s.imePending = false

/-- The states the core can be in: after a reset with any profile, parameters, draw and initial memory
(70_reset_and_hazards.md R330 to R337), and after any event in such a state. -/
inductive Reachable : State → Prop where
  | reset (profile : ResetProfile) (params : Params) (draw : RegisterDraw) (f : Word → Byte) :
      Reachable (State.resetFrom profile params draw f)
  | event {s t : State} (e : Event) : Reachable s → drive e s = .next t → Reachable t

/-- A part of the machine's state that an instruction may write: a register, one flag, SP, PC, one byte of memory, or
a piece of control state. F is its four flags: its other bits are always zero (R25). -/
inductive Part where
  | reg (r : Reg8)
  | z
  | n
  | h
  | c
  | sp
  | pc
  | byte (a : Word)
  | ime
  | imePending
  | run
  deriving DecidableEq, Repr

/-- `t` has every part of `s` but those listed, and its parameters (10_state.md R28). The cycle counter is stated
apart. -/
structure Frame (parts : List Part) (s t : State) : Prop where
  reg : ∀ r, .reg r ∉ parts → t.readReg r = s.readReg r
  z : .z ∉ parts → t.flags.z = s.flags.z
  n : .n ∉ parts → t.flags.n = s.flags.n
  h : .h ∉ parts → t.flags.h = s.flags.h
  c : .c ∉ parts → t.flags.c = s.flags.c
  sp : .sp ∉ parts → t.sp = s.sp
  pc : .pc ∉ parts → t.pc = s.pc
  memory : ∀ a, .byte a ∉ parts → t.readByte a = s.readByte a
  ime : .ime ∉ parts → t.ime = s.ime
  imePending : .imePending ∉ parts → t.imePending = s.imePending
  run : .run ∉ parts → t.run = s.run
  params : t.params = s.params
  /-- Bits 3..0 of F stay zero (R25). -/
  flagBits : s.f &&& 0x0F#8 = 0#8 → t.f &&& 0x0F#8 = 0#8

/-- The four flags. -/
def allFlags : List Part := [.z, .n, .h, .c]

/-- The registers of a pair operand. -/
def pairParts : Pair → List Part
  | .bc => [.reg .b, .reg .c]
  | .de => [.reg .d, .reg .e]
  | .hl => [.reg .h, .reg .l]
  | .sp => [.sp]

/-- The registers and flags of a stack pair operand. -/
def stackPairParts : StackPair → List Part
  | .bc => [.reg .b, .reg .c]
  | .de => [.reg .d, .reg .e]
  | .hl => [.reg .h, .reg .l]
  | .af => .reg .a :: allFlags

/-- SP and the two bytes a push from `s` stores to (20_memory.md R65, R68). -/
def pushParts (s : State) : List Part := [.sp, .byte (s.sp - 1#16), .byte (s.sp - 2#16)]

/-- What an instruction's rule names as written, in the state it runs in, beside the PC advance of the fetch and the
cycle counter (10_state.md R28). -/
def Form.writes (s : State) : Form → List Part
  | .alu .cp _ => allFlags
  | .alu _ _ => .reg .a :: allFlags
  | .incReg r => [.reg r, .z, .n, .h]
  | .incMem => [.byte s.hl, .z, .n, .h]
  | .decReg r => [.reg r, .z, .n, .h]
  | .decMem => [.byte s.hl, .z, .n, .h]
  | .addHl _ => [.reg .h, .reg .l, .n, .h, .c]
  | .addSp _ => .sp :: allFlags
  | .incPair rr => pairParts rr
  | .decPair rr => pairParts rr
  | .ldRegReg r _ => [.reg r]
  | .ldRegImm r _ => [.reg r]
  | .ldRegMem r => [.reg r]
  | .ldMemReg _ => [.byte s.hl]
  | .ldMemImm _ => [.byte s.hl]
  | .ldABc => [.reg .a]
  | .ldADe => [.reg .a]
  | .ldBcA => [.byte (s.readPair .bc)]
  | .ldDeA => [.byte (s.readPair .de)]
  | .ldAAddr _ => [.reg .a]
  | .ldAddrA a16 => [.byte a16]
  | .ldhAImm _ => [.reg .a]
  | .ldhImmA a8 => [.byte (highPage a8)]
  | .ldAC => [.reg .a]
  | .ldCA => [.byte (highPage (s.readReg .c))]
  | .ldHlIncA => [.byte s.hl, .reg .h, .reg .l]
  | .ldHlDecA => [.byte s.hl, .reg .h, .reg .l]
  | .ldAHlInc => [.reg .a, .reg .h, .reg .l]
  | .ldAHlDec => [.reg .a, .reg .h, .reg .l]
  | .ldPairImm rr _ => pairParts rr
  | .ldAddrSp a16 => [.byte a16, .byte (a16 + 1#16)]
  | .ldSpHl => [.sp]
  | .ldHlSp _ => .reg .h :: .reg .l :: allFlags
  | .push _ => pushParts s
  | .pop qq => .sp :: stackPairParts qq
  | .jp _ => [.pc]
  | .jpCond cc _ => if s.cond cc then [.pc] else []
  | .jpHl => [.pc]
  | .jr _ => [.pc]
  | .jrCond cc _ => if s.cond cc then [.pc] else []
  | .call _ => .pc :: pushParts s
  | .callCond cc _ => if s.cond cc then .pc :: pushParts s else []
  | .ret => [.pc, .sp]
  | .retCond cc => if s.cond cc then [.pc, .sp] else []
  | .reti => [.pc, .sp, .ime, .imePending]
  | .rst _ => .pc :: pushParts s
  | .rlca => .reg .a :: allFlags
  | .rrca => .reg .a :: allFlags
  | .rla => .reg .a :: allFlags
  | .rra => .reg .a :: allFlags
  | .rotReg _ r => .reg r :: allFlags
  | .rotMem _ => .byte s.hl :: allFlags
  | .bitReg _ _ => [.z, .n, .h]
  | .bitMem _ => [.z, .n, .h]
  | .resReg _ r => [.reg r]
  | .resMem _ => [.byte s.hl]
  | .setReg _ r => [.reg r]
  | .setMem _ => [.byte s.hl]
  | .nop => []
  | .halt => [.run]
  | .stop _ => [.run]
  | .di => [.ime, .imePending]
  | .ei =>
    match s.params.eiDelay with
    | .zero => [.ime]
    | .one => [.imePending]
  | .daa => [.reg .a, .z, .h, .c]
  | .cpl => [.reg .a, .n, .h]
  | .scf => [.n, .h, .c]
  | .ccf => [.n, .h, .c]
  | .illegal _ => []

/-- The M-cycles of an instruction in the state it runs in (70_reset_and_hazards.md R343); an illegal byte has no cost. -/
def Form.mcycles (s : State) : Form → Nat
  | .alu _ (.reg _) => 1
  | .alu _ .mem => 2
  | .alu _ (.imm _) => 2
  | .incReg _ => 1
  | .incMem => 3
  | .decReg _ => 1
  | .decMem => 3
  | .addHl _ => 2
  | .addSp _ => 4
  | .incPair _ => 2
  | .decPair _ => 2
  | .ldRegReg _ _ => 1
  | .ldRegImm _ _ => 2
  | .ldRegMem _ => 2
  | .ldMemReg _ => 2
  | .ldMemImm _ => 3
  | .ldABc => 2
  | .ldADe => 2
  | .ldBcA => 2
  | .ldDeA => 2
  | .ldAAddr _ => 4
  | .ldAddrA _ => 4
  | .ldhAImm _ => 3
  | .ldhImmA _ => 3
  | .ldAC => 2
  | .ldCA => 2
  | .ldHlIncA => 2
  | .ldHlDecA => 2
  | .ldAHlInc => 2
  | .ldAHlDec => 2
  | .ldPairImm _ _ => 3
  | .ldAddrSp _ => 5
  | .ldSpHl => 2
  | .ldHlSp _ => 3
  | .push _ => 4
  | .pop _ => 3
  | .jp _ => 4
  | .jpCond cc _ => if s.cond cc then 4 else 3
  | .jpHl => 1
  | .jr _ => 3
  | .jrCond cc _ => if s.cond cc then 3 else 2
  | .call _ => 6
  | .callCond cc _ => if s.cond cc then 6 else 3
  | .ret => 4
  | .retCond cc => if s.cond cc then 5 else 2
  | .reti => 4
  | .rst _ => 4
  | .rlca => 1
  | .rrca => 1
  | .rla => 1
  | .rra => 1
  | .rotReg _ _ => 2
  | .rotMem _ => 4
  | .bitReg _ _ => 2
  | .bitMem _ => 3
  | .resReg _ _ => 2
  | .resMem _ => 4
  | .setReg _ _ => 2
  | .setMem _ => 4
  | .nop => 1
  | .halt => 1
  | .stop _ => 1
  | .di => 1
  | .ei => 1
  | .daa => 1
  | .cpl => 1
  | .scf => 1
  | .ccf => 1
  | .illegal _ => 0

/-- The length in bytes of an instruction (70_reset_and_hazards.md R343; 30_encoding.md R111); an illegal byte is read
alone (R101). -/
def Form.length : Form → Nat
  | .alu _ (.imm _) => 2
  | .addSp _ => 2
  | .ldRegImm _ _ => 2
  | .ldMemImm _ => 2
  | .ldAAddr _ => 3
  | .ldAddrA _ => 3
  | .ldhAImm _ => 2
  | .ldhImmA _ => 2
  | .ldPairImm _ _ => 3
  | .ldAddrSp _ => 3
  | .ldHlSp _ => 2
  | .jp _ => 3
  | .jpCond _ _ => 3
  | .jr _ => 2
  | .jrCond _ _ => 2
  | .call _ => 3
  | .callCond _ _ => 3
  | .rotReg _ _ => 2
  | .rotMem _ => 2
  | .bitReg _ _ => 2
  | .bitMem _ => 2
  | .resReg _ _ => 2
  | .resMem _ => 2
  | .setReg _ _ => 2
  | .setMem _ => 2
  | .stop _ => 2
  | _ => 1

/-- The value a rotate or shift leaves, from the byte and the carry as numbers (44_rotate_shift.md R245 to R260). -/
def rotateValue (op : RotOp) (v c : Nat) : Nat :=
  match op with
  | .rlc => 2 * v % 256 + v / 128
  | .rrc => v / 2 + 128 * (v % 2)
  | .rl => 2 * v % 256 + c
  | .rr => v / 2 + 128 * c
  | .sla => 2 * v % 256
  | .sra => v / 2 + 128 * (v / 128)
  | .swap => 16 * (v % 16) + v / 16
  | .srl => v / 2

/-- The bit a rotate or shift moves out of the byte: bit 7 to the left, bit 0 to the right, none for SWAP
(44_rotate_shift.md R245 to R260). -/
def rotateOut (op : RotOp) (v : Nat) : Bool :=
  match op with
  | .rlc => decide (v ≥ 128)
  | .rrc => decide (v % 2 = 1)
  | .rl => decide (v ≥ 128)
  | .rr => decide (v % 2 = 1)
  | .sla => decide (v ≥ 128)
  | .sra => decide (v % 2 = 1)
  | .swap => false
  | .srl => decide (v % 2 = 1)

/-- The bytes of a binary 8-bit ALU form: the opcode of its register row, of its (HL) form, or of its immediate form
with the immediate (40_alu8.md R132 to R155). -/
def sourceEncoding (regBase memOpcode immOpcode : Byte) : Source → List Byte
  | .reg r => [regBase + r.code]
  | .mem => [memOpcode]
  | .imm d8 => [immOpcode, d8]

/-- A binary-coded decimal byte: its two digits are below 10. -/
def IsBcd (v : Byte) : Prop := v.toNat / 16 ≤ 9 ∧ v.toNat % 16 ≤ 9

/-- The number a binary-coded decimal byte stands for. -/
def bcdValue (v : Byte) : Nat := 10 * (v.toNat / 16) + v.toNat % 16

end Sys2Proof.Machine
end

