-- ==== Sys2Proof/Certificates/Slice0/Obligations.lean ====
section
/-! DEFINITION. The statements for the provers. In a statement about `exec`, `s` is the state an instruction executes
in: its `pc` is already the address of the byte after the instruction (10_state.md R30). A store is stated under
`s.mem.wf = true`, the canonical form that every step keeps (`Obligations.StepKeepsInvariant`). The M-cycles a step
returns are the increase of `cycles` (log 10). -/

open Sys2Proof Sys2Proof.Machine

/-! ## Encoding -/

/-- Decoding the encoding of a well-formed instruction gives the instruction back, whatever bytes follow
(30_encoding.md sections 3 to 5). -/
def Obligations.DecodeOfEncode : Prop :=
  ∀ (i : Instr) (rest : List Byte), i.WellFormed → decode (encode i ++ rest) = .ok (i, rest)

/-- What the decoder reads is a well-formed instruction, and its encoding is the very bytes it was read from
(30_encoding.md sections 4 and 5). -/
def Obligations.EncodeOfDecode : Prop :=
  ∀ (bytes rest : List Byte) (i : Instr), decode bytes = .ok (i, rest) →
    i.WellFormed ∧ encode i ++ rest = bytes

/-- An instruction is 1, 2 or 3 bytes long, its first byte alone fixes how many follow, and a first byte 0xCB is
followed by exactly one (30_encoding.md section 1). With those bytes there, decoding succeeds: for the eleven unmapped
bytes, where the spec's decode returns an error, that is the model's choice to give them a term of `Instr` (log 5). -/
def Obligations.FirstByteFixesLength : Prop :=
  ∀ b0 : Byte, ∃ following : Nat, following ≤ 2 ∧ (b0 = 0xCB#8 → following = 1) ∧
    (∀ (tail rest : List Byte) (i : Instr),
      decode (b0 :: tail) = .ok (i, rest) → tail.length = following + rest.length) ∧
    (∀ tail : List Byte, following ≤ tail.length → ∃ i rest, decode (b0 :: tail) = .ok (i, rest))

/-- R106: a decode reads only the bytes of the instruction it decodes, and only the first byte of an illegal one: two
states with those bytes in common decode alike. Its result holds no state, so it changes none. -/
def Obligations.DecodeReadsOnlyItsOwnBytes : Prop :=
  ∀ (s t : State) (pc : Word),
    (∀ k, k < (s.fetchDecode pc).2 → t.readByte (pc + BitVec.ofNat 16 k) = s.readByte (pc + BitVec.ofNat 16 k)) →
    t.fetchDecode pc = s.fetchDecode pc ∧
      ((∃ b, (s.fetchDecode pc).1 = .illegal b) → (s.fetchDecode pc).2 = 1)

/-- Words written out from the encodings of 30_encoding.md section 4 and of the family files. The last is no
instruction of the spec: that the unmapped byte 0xD3 decodes to a term of `Instr` is the model's choice (log 5). -/
def Obligations.SampleWordsDecode : Prop :=
  Encodes [0x00#8] .nop ∧
  Encodes [0x41#8] .ld_b_c ∧
  Encodes [0x76#8] .halt ∧
  Encodes [0x31#8, 0xFE#8, 0xFF#8] (.ld_sp_d16 0xFFFE#16) ∧
  Encodes [0x08#8, 0x00#8, 0xC1#8] (.ld_mA16_sp 0xC100#16) ∧
  Encodes [0x20#8, 0xFC#8] (.jr_nz_e8 0xFC#8) ∧
  Encodes [0x86#8] .add_a_mHL ∧
  Encodes [0xC6#8, 0x01#8] (.add_a_d8 0x01#8) ∧
  Encodes [0xF5#8] .push_af ∧
  Encodes [0xD4#8, 0x00#8, 0x02#8] (.call_nc_a16 0x0200#16) ∧
  Encodes [0xFF#8] .rst_38h ∧
  Encodes [0xF8#8, 0x02#8] (.ld_hl_sp_e8 0x02#8) ∧
  Encodes [0x10#8, 0x55#8] (.stop 0x55#8) ∧
  Encodes [0xCB#8, 0x37#8] .swap_a ∧
  Encodes [0xCB#8, 0x76#8] .bit_6_mHL ∧
  Encodes [0xD3#8] (.illegal 0xD3#8)

/-! ## The step -/

/-- When the bytes at the program counter decode to an instruction, a step of a running core executes it with the
program counter moved past its bytes, and then completes an EI that was pending when the step began and still is
(30_encoding.md section 6). -/
def Obligations.StepRunsTheDecodedInstruction : Prop :=
  ∀ (s : State) (i : Instr) (rest : List Byte), s.run = .running →
    decode [s.readByte s.pc, s.readByte (s.pc + 1#16), s.readByte (s.pc + 2#16)] = .ok (i, rest) →
    step s =
      match exec i { s with pc := s.pc + BitVec.ofNat 16 (3 - rest.length) } with
      | .next t =>
        if s.params.eiDelay = .one ∧ s.imePending = true ∧ t.imePending = true then
          .next { t with ime := true, imePending := false }
        else .next t
      | .fault e => .fault e
      | .refused r => .refused r

/-- A step in Halted or Stopped passes one M-cycle and changes nothing else (30_encoding.md section 6), and the wake input
sets run to Running and changes nothing else (60_exceptions.md section 3). -/
def Obligations.IdleStepAndWake : Prop :=
  ∀ s : State,
    (s.run ≠ .running → step s = .next { s with cycles := s.cycles + 1 }) ∧
    drive .wake s = .next { s with run := .running }

/-- R301: a step of a running core raises UnknownOpcode exactly when the byte at the program counter is one of the
eleven unmapped bytes, carries that byte, and has no next state; on every other byte it has one. -/
def Obligations.StepFaultsExactlyOnTheElevenBytes : Prop :=
  ∀ s : State, s.run = .running →
    (s.readByte s.pc ∈ [0xD3#8, 0xDB#8, 0xDD#8, 0xE3#8, 0xE4#8, 0xEB#8, 0xEC#8, 0xED#8, 0xF4#8, 0xFC#8, 0xFD#8] →
      step s = .fault (.unknownOpcode (s.readByte s.pc))) ∧
    (s.readByte s.pc ∉ [0xD3#8, 0xDB#8, 0xDD#8, 0xE3#8, 0xE4#8, 0xEB#8, 0xEC#8, 0xED#8, 0xF4#8, 0xFC#8, 0xFD#8] →
      ∃ t, step s = .next t)

/-- `(illegal)`: executing the error term of R101 stops with UnknownOpcode and the byte it carries, in every state; no
other instruction stops, and none is refused. That an illegal byte is a term of `Instr` is the model's choice (log 5). -/
def Obligations.OnlyIllegalStops : Prop :=
  (∀ (b : Byte) (s : State), exec (.illegal b) s = .fault (.unknownOpcode b)) ∧
  ∀ (i : Instr) (s : State), (∃ b, i = .illegal b) ∨ ∃ t, exec i s = .next t

/-- Every step keeps the invariant: memory stays canonical, bits 3..0 of F stay zero, and ime_pending is set only where
P_EI_DELAY = 1 gives it to the machine (10_state.md sections 1 and 4; the form of memory is the model's, log 14). -/
def Obligations.StepKeepsInvariant : Prop :=
  ∀ s t : State, Inv s → step s = .next t → Inv t

/-- The invariant holds after every reset: for each profile, parameters, draw and initial memory, and for the model's
own reset state. -/
def Obligations.ResetMeetsInvariant : Prop :=
  (∀ profile params draw f, Inv (State.resetFrom profile params draw f)) ∧ Inv State.reset

/-- The invariant holds of every state the core can be in, whatever the driver and the external controller do. That
their actions are the events of `drive`, taken between steps, is the model's form (log 6). -/
def Obligations.ReachableMeetsInvariant : Prop :=
  ∀ s : State, Reachable s → Inv s

/-- R28: every instruction but an illegal byte executes to a next state that differs from the state it began in only in
the parts its rule names (`Form.writes`) and the cycle counter; and every instruction is the instruction of a form. -/
def Obligations.EveryInstructionCompletesAndWritesOnlyItsParts : Prop :=
  (∀ i : Instr, ∃ f : Form, Form.toInstr f = i) ∧
  ∀ (f : Form) (s : State), s.mem.wf = true → (∀ b, f ≠ .illegal b) →
    ∃ t, exec (Form.toInstr f) s = .next t ∧ Frame (Form.writes s f) s t

/-- R343: the length and the M-cycle cost of every instruction form; an illegal byte has no cost. -/
def Obligations.LengthAndCyclesOfEveryForm : Prop :=
  ∀ (f : Form) (s : State),
    (encode (Form.toInstr f)).length = Form.length f ∧
    ((∀ b, f ≠ .illegal b) → ∃ t, exec (Form.toInstr f) s = .next t ∧ t.cycles = s.cycles + Form.mcycles s f ∧
      1 ≤ Form.mcycles s f ∧ Form.mcycles s f ≤ 6) ∧
    ∀ b, f = .illegal b → exec (Form.toInstr f) s = .fault (.unknownOpcode b)

/-- R307: while ime = 0 an interrupt entry is refused, and the only writers of ime are DI, EI, RETI, the completion of a
delayed EI and interrupt entry, each with its value. -/
def Obligations.OnlyTheseWriteIme : Prop :=
  (∀ (s : State) (v : Word), s.ime = false → s.interruptEntry v = .refused .interruptsDisabled) ∧
  ∀ (e : Event) (s t : State), drive e s = .next t → t.ime ≠ s.ime →
    (∃ v, e = .interruptEntry v ∧ t.ime = false) ∨
    (e = .step ∧ s.run = .running ∧
      (((s.fetchDecode s.pc).1 = .di ∧ t.ime = false) ∨
        ((s.fetchDecode s.pc).1 = .ei ∧ t.ime = true) ∨
        ((s.fetchDecode s.pc).1 = .reti ∧ t.ime = true) ∨
        (s.params.eiDelay = .one ∧ s.imePending = true ∧ t.ime = true)))

/-- The run state changes only by HALT, STOP, the wake input and interrupt entry (10_state.md section 4). -/
def Obligations.OnlyTheseWriteRun : Prop :=
  ∀ (e : Event) (s t : State), drive e s = .next t → t.run ≠ s.run →
    (e = .wake ∧ t.run = .running) ∨
    (∃ v, e = .interruptEntry v ∧ t.run = .running) ∨
    (e = .step ∧ s.run = .running ∧
      (((s.fetchDecode s.pc).1 = .halt ∧ t.run = .halted) ∨
        (∃ b, (s.fetchDecode s.pc).1 = .stop b) ∧ t.run = .stopped))

/-- No instruction reads the cycle counter or ime (10_state.md section 4): run from a state that differs only there, it
does the same to everything else. -/
def Obligations.NoInstructionReadsCyclesOrIme : Prop :=
  ∀ (i : Instr) (s t : State) (n : Nat) (v : Bool), exec i s = .next t →
    exec i (s.tick n) = .next (t.tick n) ∧
    ∃ u, exec i (s.setIme v) = .next u ∧ u.setIme t.ime = t ∧ (u.ime = v ∨ u.ime = t.ime)

/-! ## Registers and memory -/

/-- R23 and R24: a pair reads and writes its two halves, the first letter in bits 15..8; SP and PC are themselves. The
low half of AF is masked when written (R25). -/
def Obligations.PairsAreViewsOfTheirHalves : Prop :=
  ∀ (s : State) (v : Word),
    s.readDouble .af = wordOf (s.readSingle .a) (s.readSingle .f) ∧
    s.readDouble .bc = wordOf (s.readSingle .b) (s.readSingle .c) ∧
    s.readDouble .de = wordOf (s.readSingle .d) (s.readSingle .e) ∧
    s.readDouble .hl = wordOf (s.readSingle .h) (s.readSingle .l) ∧
    s.readDouble .sp = s.sp ∧ s.readDouble .pc = s.pc ∧
    s.writeDouble .af v = (s.writeSingle .a (hiByte v)).writeSingle .f (loByte v) ∧
    s.writeDouble .bc v = (s.writeSingle .b (hiByte v)).writeSingle .c (loByte v) ∧
    s.writeDouble .de v = (s.writeSingle .d (hiByte v)).writeSingle .e (loByte v) ∧
    s.writeDouble .hl v = (s.writeSingle .h (hiByte v)).writeSingle .l (loByte v) ∧
    s.writeDouble .sp v = { s with sp := v } ∧ s.writeDouble .pc v = { s with pc := v } ∧
    (wordOf (hiByte v) (loByte v) = v ∧ (hiByte v).toNat = v.toNat / 256 ∧ (loByte v).toNat = v.toNat % 256)

/-- R25 and R37: every route that writes F stores the value with bits 3..0 zero, a read of F has them zero, and a
condition reads Z or C. The flags are bits 7 to 4 of F (R26), and set_flags writes the four and nothing else (R27). -/
def Obligations.FlagsAreTheHighBitsOfF : Prop :=
  ∀ (s : State) (b : Byte) (v : Word) (fs : FlagSet),
    (s.writeSingle .f b).f = b &&& 0xF0#8 ∧
    (s.writeDouble .af v).f = loByte v &&& 0xF0#8 ∧
    (s.setFlags fs).f &&& 0x0F#8 = 0#8 ∧
    s.readSingle .f &&& 0x0F#8 = 0#8 ∧
    s.flags = { z := s.f.getLsbD 7, n := s.f.getLsbD 6, h := s.f.getLsbD 5, c := s.f.getLsbD 4 } ∧
    (s.setFlags fs).flags = fs ∧ s.setFlags fs = { s with f := (s.setFlags fs).f } ∧
    s.cond .nz = !s.flags.z ∧ s.cond .z = s.flags.z ∧ s.cond .nc = !s.flags.c ∧ s.cond .c = s.flags.c

/-- R61: a write replaces the addressed byte and no other, nothing else of the state changes, and every address can be
read and written. -/
def Obligations.MemWriteReplacesOneByte : Prop :=
  ∀ (s : State) (a : Word) (v : Byte), s.mem.wf = true →
    (s.writeByte a v).readByte a = v ∧
    (∀ x, x ≠ a → (s.writeByte a v).readByte x = s.readByte x) ∧
    s.writeByte a v = { s with mem := (s.writeByte a v).mem } ∧
    (s.writeByte a v).mem.wf = true

/-- R65: Push16 stores the pushed word little-endian below the old SP and moves SP down by two; Pop16 then returns the
word and leaves SP as it was. -/
def Obligations.PopReturnsWhatWasPushed : Prop :=
  ∀ (s : State) (v : Word), s.mem.wf = true →
    (s.push16 v).readByte (s.sp - 2#16) = loByte v ∧
    (s.push16 v).readByte (s.sp - 1#16) = hiByte v ∧
    (s.push16 v).sp = s.sp - 2#16 ∧
    (∀ x, x ≠ s.sp - 1#16 → x ≠ s.sp - 2#16 → (s.push16 v).readByte x = s.readByte x) ∧
    s.pop16.1 = wordOf (s.readByte (s.sp + 1#16)) (s.readByte s.sp) ∧ s.pop16.2 = { s with sp := s.sp + 2#16 } ∧
    (s.push16 v).pop16.1 = v ∧ (s.push16 v).pop16.2.sp = s.sp

/-! ## 8-bit ALU (40_alu8.md) -/

/-- R132, R133, R134: ADD of a register, the byte at HL or an immediate. -/
def Obligations.AddToA : Prop :=
  ∀ (src : Source) (s : State),
    let a := (s.readReg .a).toNat
    let v := (s.sourceValue src).toNat
    Encodes (sourceEncoding 0x80#8 0x86#8 0xC6#8 src) (Form.toInstr (.alu .add src)) ∧
    ∃ t, exec (Form.toInstr (.alu .add src)) s = .next t ∧
      (t.readReg .a).toNat = (a + v) % 256 ∧
      t.flags = { z := decide ((a + v) % 256 = 0), n := false
                  h := decide (a % 16 + v % 16 > 0xF), c := decide (a + v > 0xFF) } ∧
      t.cycles = s.cycles + Form.mcycles s (.alu .add src) ∧
      Frame (.reg .a :: allFlags) s t

/-- ADC adds the carry too, and the carry-in takes part in both carries: the spec's own inference from its source
(40_alu8.md section 2, R135 to R137, marked derived there). -/
def Obligations.AdcToA : Prop :=
  ∀ (src : Source) (s : State),
    let a := (s.readReg .a).toNat
    let v := (s.sourceValue src).toNat
    let c := s.flags.c.toNat
    Encodes (sourceEncoding 0x88#8 0x8E#8 0xCE#8 src) (Form.toInstr (.alu .adc src)) ∧
    ∃ t, exec (Form.toInstr (.alu .adc src)) s = .next t ∧
      (t.readReg .a).toNat = (a + v + c) % 256 ∧
      t.flags = { z := decide ((a + v + c) % 256 = 0), n := false
                  h := decide (a % 16 + v % 16 + c > 0xF), c := decide (a + v + c > 0xFF) } ∧
      t.cycles = s.cycles + Form.mcycles s (.alu .adc src) ∧
      Frame (.reg .a :: allFlags) s t

/-- R138, R139, R140: SUB of a register, the byte at HL or an immediate. -/
def Obligations.SubFromA : Prop :=
  ∀ (src : Source) (s : State),
    let a := (s.readReg .a).toNat
    let v := (s.sourceValue src).toNat
    Encodes (sourceEncoding 0x90#8 0x96#8 0xD6#8 src) (Form.toInstr (.alu .sub src)) ∧
    ∃ t, exec (Form.toInstr (.alu .sub src)) s = .next t ∧
      (t.readReg .a).toNat = (a + 256 - v) % 256 ∧
      t.flags = { z := decide ((a + 256 - v) % 256 = 0), n := true
                  h := decide (a % 16 < v % 16), c := decide (a < v) } ∧
      t.cycles = s.cycles + Form.mcycles s (.alu .sub src) ∧
      Frame (.reg .a :: allFlags) s t

/-- SBC subtracts the carry too, and the borrow-in takes part in both borrows: the spec's own inference from its source
(40_alu8.md section 2, R141 to R143, marked derived there). -/
def Obligations.SbcFromA : Prop :=
  ∀ (src : Source) (s : State),
    let a := (s.readReg .a).toNat
    let v := (s.sourceValue src).toNat
    let c := s.flags.c.toNat
    Encodes (sourceEncoding 0x98#8 0x9E#8 0xDE#8 src) (Form.toInstr (.alu .sbc src)) ∧
    ∃ t, exec (Form.toInstr (.alu .sbc src)) s = .next t ∧
      (t.readReg .a).toNat = (a + 512 - v - c) % 256 ∧
      t.flags = { z := decide ((a + 512 - v - c) % 256 = 0), n := true
                  h := decide (a % 16 < v % 16 + c), c := decide (a < v + c) } ∧
      t.cycles = s.cycles + Form.mcycles s (.alu .sbc src) ∧
      Frame (.reg .a :: allFlags) s t

/-- R144 to R152: AND, XOR and OR of a register, the byte at HL or an immediate; AND sets H and the others clear it. -/
def Obligations.LogicOnA : Prop :=
  ∀ (src : Source) (s : State),
    let a := s.readReg .a
    let v := s.sourceValue src
    (Encodes (sourceEncoding 0xA0#8 0xA6#8 0xE6#8 src) (Form.toInstr (.alu .and src)) ∧
      ∃ t, exec (Form.toInstr (.alu .and src)) s = .next t ∧
        t.readReg .a = a &&& v ∧
        t.flags = { z := decide (a &&& v = 0#8), n := false, h := true, c := false } ∧
        t.cycles = s.cycles + Form.mcycles s (.alu .and src) ∧ Frame (.reg .a :: allFlags) s t) ∧
    (Encodes (sourceEncoding 0xA8#8 0xAE#8 0xEE#8 src) (Form.toInstr (.alu .xor src)) ∧
      ∃ t, exec (Form.toInstr (.alu .xor src)) s = .next t ∧
        t.readReg .a = a ^^^ v ∧
        t.flags = { z := decide (a ^^^ v = 0#8), n := false, h := false, c := false } ∧
        t.cycles = s.cycles + Form.mcycles s (.alu .xor src) ∧ Frame (.reg .a :: allFlags) s t) ∧
    (Encodes (sourceEncoding 0xB0#8 0xB6#8 0xF6#8 src) (Form.toInstr (.alu .or src)) ∧
      ∃ t, exec (Form.toInstr (.alu .or src)) s = .next t ∧
        t.readReg .a = a ||| v ∧
        t.flags = { z := decide (a ||| v = 0#8), n := false, h := false, c := false } ∧
        t.cycles = s.cycles + Form.mcycles s (.alu .or src) ∧ Frame (.reg .a :: allFlags) s t)

/-- R153, R154, R155: CP writes the flags of a subtraction and no register. -/
def Obligations.CompareWithA : Prop :=
  ∀ (src : Source) (s : State),
    let a := (s.readReg .a).toNat
    let v := (s.sourceValue src).toNat
    Encodes (sourceEncoding 0xB8#8 0xBE#8 0xFE#8 src) (Form.toInstr (.alu .cp src)) ∧
    ∃ t, exec (Form.toInstr (.alu .cp src)) s = .next t ∧
      t.flags = { z := decide (a = v), n := true, h := decide (a % 16 < v % 16), c := decide (a < v) } ∧
      t.cycles = s.cycles + Form.mcycles s (.alu .cp src) ∧
      Frame allFlags s t

/-- INC and DEC of a register or the byte at HL: the operand wraps, H is the carry or borrow of its low digit, C is
kept. The single operand and the kept C are the spec's own choice against its source (40_alu8.md section 3, R156 to
R159, decision D17). -/
def Obligations.IncDecByte : Prop :=
  (∀ (r : Reg8) (s : State),
    let v := (s.readReg r).toNat
    (Encodes [0x04#8 + 8#8 * r.code] (Form.toInstr (.incReg r)) ∧
      ∃ t, exec (Form.toInstr (.incReg r)) s = .next t ∧
        (t.readReg r).toNat = (v + 1) % 256 ∧
        t.flags = { z := decide ((v + 1) % 256 = 0), n := false, h := decide (v % 16 = 0xF), c := s.flags.c } ∧
        t.cycles = s.cycles + 1 ∧ Frame [.reg r, .z, .n, .h] s t) ∧
    (Encodes [0x05#8 + 8#8 * r.code] (Form.toInstr (.decReg r)) ∧
      ∃ t, exec (Form.toInstr (.decReg r)) s = .next t ∧
        (t.readReg r).toNat = (v + 255) % 256 ∧
        t.flags = { z := decide ((v + 255) % 256 = 0), n := true, h := decide (v % 16 = 0x0), c := s.flags.c } ∧
        t.cycles = s.cycles + 1 ∧ Frame [.reg r, .z, .n, .h] s t)) ∧
  (∀ s : State, s.mem.wf = true →
    let v := (s.readByte s.hl).toNat
    (Encodes [0x34#8] .inc_mHL ∧
      ∃ t, exec .inc_mHL s = .next t ∧
        (t.readByte s.hl).toNat = (v + 1) % 256 ∧
        t.flags = { z := decide ((v + 1) % 256 = 0), n := false, h := decide (v % 16 = 0xF), c := s.flags.c } ∧
        t.cycles = s.cycles + 3 ∧ Frame [.byte s.hl, .z, .n, .h] s t) ∧
    (Encodes [0x35#8] .dec_mHL ∧
      ∃ t, exec .dec_mHL s = .next t ∧
        (t.readByte s.hl).toNat = (v + 255) % 256 ∧
        t.flags = { z := decide ((v + 255) % 256 = 0), n := true, h := decide (v % 16 = 0x0), c := s.flags.c } ∧
        t.cycles = s.cycles + 3 ∧ Frame [.byte s.hl, .z, .n, .h] s t))

/-! ## 16-bit ALU (41_alu16.md) -/

/-- ADD HL,rr: H and C are the carries from bits 11 and 15, N is cleared and Z kept. N = 0 is the spec's own choice
against its source (41_alu16.md R170, decision D18). -/
def Obligations.AddToHl : Prop :=
  ∀ (rr : Pair) (s : State),
    let h := s.hl.toNat
    let v := (s.readPair rr).toNat
    Encodes [0x09#8 + 16#8 * rr.code] (Form.toInstr (.addHl rr)) ∧
    ∃ t, exec (Form.toInstr (.addHl rr)) s = .next t ∧
      t.hl.toNat = (h + v) % 65536 ∧
      t.flags = { z := s.flags.z, n := false
                  h := decide (h % 4096 + v % 4096 > 0xFFF), c := decide (h + v > 0xFFFF) } ∧
      t.cycles = s.cycles + 2 ∧
      Frame [.reg .h, .reg .l, .n, .h, .c] s t

/-- R171 and R203: ADD SP,e8 and LD HL,SP+e8 add the signed offset; H and C are the carries of the unsigned addition of
SP's low byte and the raw byte, and Z and N are cleared. -/
def Obligations.SpPlusOffset : Prop :=
  ∀ (e8 : Byte) (s : State),
    let flags : FlagSet :=
      { z := false, n := false
        h := decide (s.sp.toNat % 16 + e8.toNat % 16 > 0xF), c := decide (s.sp.toNat % 256 + e8.toNat > 0xFF) }
    (Encodes [0xE8#8, e8] (.add_sp_e8 e8) ∧
      ∃ t, exec (.add_sp_e8 e8) s = .next t ∧
        (t.sp.toNat : Int) = (s.sp.toNat + e8.toInt) % 65536 ∧ t.flags = flags ∧
        t.cycles = s.cycles + 4 ∧ Frame (.sp :: allFlags) s t) ∧
    (Encodes [0xF8#8, e8] (.ld_hl_sp_e8 e8) ∧
      ∃ t, exec (.ld_hl_sp_e8 e8) s = .next t ∧
        (t.hl.toNat : Int) = (s.sp.toNat + e8.toInt) % 65536 ∧ t.flags = flags ∧
        t.cycles = s.cycles + 3 ∧ Frame (.reg .h :: .reg .l :: allFlags) s t)

/-- R172 and R173: INC and DEC of a pair wrap and write no flag. -/
def Obligations.IncDecPair : Prop :=
  ∀ (rr : Pair) (s : State),
    (Encodes [0x03#8 + 16#8 * rr.code] (Form.toInstr (.incPair rr)) ∧
      ∃ t, exec (Form.toInstr (.incPair rr)) s = .next t ∧
        (t.readPair rr).toNat = ((s.readPair rr).toNat + 1) % 65536 ∧
        t.cycles = s.cycles + 2 ∧ Frame (pairParts rr) s t) ∧
    (Encodes [0x0B#8 + 16#8 * rr.code] (Form.toInstr (.decPair rr)) ∧
      ∃ t, exec (Form.toInstr (.decPair rr)) s = .next t ∧
        (t.readPair rr).toNat = ((s.readPair rr).toNat + 65535) % 65536 ∧
        t.cycles = s.cycles + 2 ∧ Frame (pairParts rr) s t)

/-! ## Loads (42_loads.md) -/

/-- R180, R181, R182: a register gets another register, an immediate, or the byte at the old HL. -/
def Obligations.LoadRegister : Prop :=
  ∀ (r r' : Reg8) (d8 : Byte) (s : State),
    (Encodes [0x40#8 + 8#8 * r.code + r'.code] (Form.toInstr (.ldRegReg r r')) ∧
      ∃ t, exec (Form.toInstr (.ldRegReg r r')) s = .next t ∧
        t.readReg r = s.readReg r' ∧ t.cycles = s.cycles + 1 ∧ Frame [.reg r] s t) ∧
    (Encodes [0x06#8 + 8#8 * r.code, d8] (Form.toInstr (.ldRegImm r d8)) ∧
      ∃ t, exec (Form.toInstr (.ldRegImm r d8)) s = .next t ∧
        t.readReg r = d8 ∧ t.cycles = s.cycles + 2 ∧ Frame [.reg r] s t) ∧
    (Encodes [0x46#8 + 8#8 * r.code] (Form.toInstr (.ldRegMem r)) ∧
      ∃ t, exec (Form.toInstr (.ldRegMem r)) s = .next t ∧
        t.readReg r = s.readByte s.hl ∧ t.cycles = s.cycles + 2 ∧ Frame [.reg r] s t)

/-- R183 and R184: the byte at HL gets a register or an immediate. -/
def Obligations.StoreAtHl : Prop :=
  ∀ (r : Reg8) (d8 : Byte) (s : State), s.mem.wf = true →
    (Encodes [0x70#8 + r.code] (Form.toInstr (.ldMemReg r)) ∧
      ∃ t, exec (Form.toInstr (.ldMemReg r)) s = .next t ∧
        t.readByte s.hl = s.readReg r ∧ t.cycles = s.cycles + 2 ∧ Frame [.byte s.hl] s t) ∧
    (Encodes [0x36#8, d8] (.ld_mHL_d8 d8) ∧
      ∃ t, exec (.ld_mHL_d8 d8) s = .next t ∧
        t.readByte s.hl = d8 ∧ t.cycles = s.cycles + 3 ∧ Frame [.byte s.hl] s t)

/-- R185, R186, R189, R191, R193: A gets the byte at BC, at DE, at an immediate address, or in the page 0xFF00. -/
def Obligations.LoadAFromMemory : Prop :=
  ∀ (a16 : Word) (a8 : Byte) (s : State),
    (Encodes [0x0A#8] .ld_a_mBC ∧ ∃ t, exec .ld_a_mBC s = .next t ∧
      t.readReg .a = s.readByte (s.readPair .bc) ∧ t.cycles = s.cycles + 2 ∧ Frame [.reg .a] s t) ∧
    (Encodes [0x1A#8] .ld_a_mDE ∧ ∃ t, exec .ld_a_mDE s = .next t ∧
      t.readReg .a = s.readByte (s.readPair .de) ∧ t.cycles = s.cycles + 2 ∧ Frame [.reg .a] s t) ∧
    (Encodes [0xFA#8, loByte a16, hiByte a16] (.ld_a_mA16 a16) ∧ ∃ t, exec (.ld_a_mA16 a16) s = .next t ∧
      t.readReg .a = s.readByte a16 ∧ t.cycles = s.cycles + 4 ∧ Frame [.reg .a] s t) ∧
    (Encodes [0xF0#8, a8] (.ldh_a_mA8 a8) ∧ ∃ t, exec (.ldh_a_mA8 a8) s = .next t ∧
      t.readReg .a = s.readByte (wordOf 0xFF#8 a8) ∧ t.cycles = s.cycles + 3 ∧ Frame [.reg .a] s t) ∧
    (Encodes [0xF2#8] .ld_a_mC ∧ ∃ t, exec .ld_a_mC s = .next t ∧
      t.readReg .a = s.readByte (wordOf 0xFF#8 (s.readReg .c)) ∧ t.cycles = s.cycles + 2 ∧ Frame [.reg .a] s t)

/-- R187, R188, R190, R192, R194: A is stored at BC, at DE, at an immediate address, or in the page 0xFF00. -/
def Obligations.StoreAToMemory : Prop :=
  ∀ (a16 : Word) (a8 : Byte) (s : State), s.mem.wf = true →
    (Encodes [0x02#8] .ld_mBC_a ∧ ∃ t, exec .ld_mBC_a s = .next t ∧
      t.readByte (s.readPair .bc) = s.readReg .a ∧ t.cycles = s.cycles + 2 ∧
      Frame [.byte (s.readPair .bc)] s t) ∧
    (Encodes [0x12#8] .ld_mDE_a ∧ ∃ t, exec .ld_mDE_a s = .next t ∧
      t.readByte (s.readPair .de) = s.readReg .a ∧ t.cycles = s.cycles + 2 ∧
      Frame [.byte (s.readPair .de)] s t) ∧
    (Encodes [0xEA#8, loByte a16, hiByte a16] (.ld_mA16_a a16) ∧ ∃ t, exec (.ld_mA16_a a16) s = .next t ∧
      t.readByte a16 = s.readReg .a ∧ t.cycles = s.cycles + 4 ∧ Frame [.byte a16] s t) ∧
    (Encodes [0xE0#8, a8] (.ldh_mA8_a a8) ∧ ∃ t, exec (.ldh_mA8_a a8) s = .next t ∧
      t.readByte (wordOf 0xFF#8 a8) = s.readReg .a ∧ t.cycles = s.cycles + 3 ∧
      Frame [.byte (wordOf 0xFF#8 a8)] s t) ∧
    (Encodes [0xE2#8] .ld_mC_a ∧ ∃ t, exec .ld_mC_a s = .next t ∧
      t.readByte (wordOf 0xFF#8 (s.readReg .c)) = s.readReg .a ∧ t.cycles = s.cycles + 2 ∧
      Frame [.byte (wordOf 0xFF#8 (s.readReg .c))] s t)

/-- R195 to R198: A is stored to or loaded from the old HL, and HL steps by one, wrapping. -/
def Obligations.HlStepsAfterTheAccess : Prop :=
  ∀ s : State,
    (s.mem.wf = true → Encodes [0x22#8] .ld_mHLinc_a ∧ ∃ t, exec .ld_mHLinc_a s = .next t ∧
      t.readByte s.hl = s.readReg .a ∧ t.hl.toNat = (s.hl.toNat + 1) % 65536 ∧ t.cycles = s.cycles + 2 ∧
      Frame [.byte s.hl, .reg .h, .reg .l] s t) ∧
    (s.mem.wf = true → Encodes [0x32#8] .ld_mHLdec_a ∧ ∃ t, exec .ld_mHLdec_a s = .next t ∧
      t.readByte s.hl = s.readReg .a ∧ t.hl.toNat = (s.hl.toNat + 65535) % 65536 ∧ t.cycles = s.cycles + 2 ∧
      Frame [.byte s.hl, .reg .h, .reg .l] s t) ∧
    (Encodes [0x2A#8] .ld_a_mHLinc ∧ ∃ t, exec .ld_a_mHLinc s = .next t ∧
      t.readReg .a = s.readByte s.hl ∧ t.hl.toNat = (s.hl.toNat + 1) % 65536 ∧ t.cycles = s.cycles + 2 ∧
      Frame [.reg .a, .reg .h, .reg .l] s t) ∧
    (Encodes [0x3A#8] .ld_a_mHLdec ∧ ∃ t, exec .ld_a_mHLdec s = .next t ∧
      t.readReg .a = s.readByte s.hl ∧ t.hl.toNat = (s.hl.toNat + 65535) % 65536 ∧ t.cycles = s.cycles + 2 ∧
      Frame [.reg .a, .reg .h, .reg .l] s t)

/-- R200, R201, R202: a pair gets an immediate, SP is stored little-endian at an immediate address, SP gets HL. -/
def Obligations.LoadWord : Prop :=
  ∀ (rr : Pair) (v : Word) (s : State),
    (Encodes [0x01#8 + 16#8 * rr.code, loByte v, hiByte v] (Form.toInstr (.ldPairImm rr v)) ∧
      ∃ t, exec (Form.toInstr (.ldPairImm rr v)) s = .next t ∧
        t.readPair rr = v ∧ t.cycles = s.cycles + 3 ∧ Frame (pairParts rr) s t) ∧
    (s.mem.wf = true → Encodes [0x08#8, loByte v, hiByte v] (.ld_mA16_sp v) ∧
      ∃ t, exec (.ld_mA16_sp v) s = .next t ∧
        t.readByte v = loByte s.sp ∧ t.readByte (v + 1#16) = hiByte s.sp ∧ t.cycles = s.cycles + 5 ∧
        Frame [.byte v, .byte (v + 1#16)] s t) ∧
    (Encodes [0xF9#8] .ld_sp_hl ∧
      ∃ t, exec .ld_sp_hl s = .next t ∧ t.sp = s.hl ∧ t.cycles = s.cycles + 2 ∧ Frame [.sp] s t)

/-- R204: PUSH stores the high byte at SP-1 and the low byte at SP-2 and moves SP down by two; PUSH AF stores F with bits
3..0 zero. -/
def Obligations.PushPair : Prop :=
  ∀ (qq : StackPair) (s : State), s.mem.wf = true →
    Encodes [0xC5#8 + 16#8 * qq.code] (Form.toInstr (.push qq)) ∧
    ∃ t, exec (Form.toInstr (.push qq)) s = .next t ∧
      t.readByte (s.sp - 1#16) = hiByte (s.readStackPair qq) ∧
      t.readByte (s.sp - 2#16) = loByte (s.readStackPair qq) ∧
      (qq = .af → t.readByte (s.sp - 2#16) &&& 0x0F#8 = 0#8) ∧
      t.sp = s.sp - 2#16 ∧ t.cycles = s.cycles + 4 ∧ Frame (pushParts s) s t

/-- R205: POP takes the low byte from SP and the high byte from SP+1 and moves SP up by two; POP AF writes the four flags
from the low byte's high digit and drops the rest. -/
def Obligations.PopPair : Prop :=
  ∀ (qq : StackPair) (s : State),
    let lo := s.readByte s.sp
    let hi := s.readByte (s.sp + 1#16)
    Encodes [0xC1#8 + 16#8 * qq.code] (Form.toInstr (.pop qq)) ∧
    ∃ t, exec (Form.toInstr (.pop qq)) s = .next t ∧
      t.readStackPair qq = wordOf hi (if qq = .af then lo &&& 0xF0#8 else lo) ∧
      (qq = .af → t.f = lo &&& 0xF0#8 ∧
        t.flags = { z := lo.getLsbD 7, n := lo.getLsbD 6, h := lo.getLsbD 5, c := lo.getLsbD 4 }) ∧
      t.sp = s.sp + 2#16 ∧ t.cycles = s.cycles + 3 ∧ Frame (.sp :: stackPairParts qq) s t

/-! ## Control flow (43_control.md) -/

/-- R220, R221, R222: absolute jumps, by a condition where there is one. -/
def Obligations.Jumps : Prop :=
  ∀ (cc : Cond) (a16 : Word) (s : State),
    (Encodes [0xC3#8, loByte a16, hiByte a16] (.jp_a16 a16) ∧ ∃ t, exec (.jp_a16 a16) s = .next t ∧
      t.pc = a16 ∧ t.cycles = s.cycles + 4 ∧ Frame [.pc] s t) ∧
    (Encodes [0xC2#8 + 8#8 * cc.code, loByte a16, hiByte a16] (Form.toInstr (.jpCond cc a16)) ∧
      ∃ t, exec (Form.toInstr (.jpCond cc a16)) s = .next t ∧
        (s.cond cc = true → t.pc = a16 ∧ t.cycles = s.cycles + 4 ∧ Frame [.pc] s t) ∧
        (s.cond cc = false → t.cycles = s.cycles + 3 ∧ Frame [] s t)) ∧
    (Encodes [0xE9#8] .jp_hl ∧ ∃ t, exec .jp_hl s = .next t ∧
      t.pc = s.hl ∧ t.cycles = s.cycles + 1 ∧ Frame [.pc] s t)

/-- R223 and R224: a relative jump adds its signed offset to the address of the next instruction, wrapping. -/
def Obligations.RelativeJumps : Prop :=
  ∀ (cc : Cond) (e8 : Byte) (s : State),
    (Encodes [0x18#8, e8] (.jr_e8 e8) ∧ ∃ t, exec (.jr_e8 e8) s = .next t ∧
      (t.pc.toNat : Int) = (s.pc.toNat + e8.toInt) % 65536 ∧ t.cycles = s.cycles + 3 ∧ Frame [.pc] s t) ∧
    (Encodes [0x20#8 + 8#8 * cc.code, e8] (Form.toInstr (.jrCond cc e8)) ∧
      ∃ t, exec (Form.toInstr (.jrCond cc e8)) s = .next t ∧
        (s.cond cc = true →
          (t.pc.toNat : Int) = (s.pc.toNat + e8.toInt) % 65536 ∧ t.cycles = s.cycles + 3 ∧ Frame [.pc] s t) ∧
        (s.cond cc = false → t.cycles = s.cycles + 2 ∧ Frame [] s t))

/-- R225 and R226: a call pushes the address of the next instruction and jumps, by a condition where there is one. -/
def Obligations.Calls : Prop :=
  ∀ (cc : Cond) (a16 : Word) (s : State), s.mem.wf = true →
    (Encodes [0xCD#8, loByte a16, hiByte a16] (.call_a16 a16) ∧ ∃ t, exec (.call_a16 a16) s = .next t ∧
      t.pc = a16 ∧ t.sp = s.sp - 2#16 ∧ t.readByte (s.sp - 1#16) = hiByte s.pc ∧
      t.readByte (s.sp - 2#16) = loByte s.pc ∧ t.cycles = s.cycles + 6 ∧ Frame (.pc :: pushParts s) s t) ∧
    (Encodes [0xC4#8 + 8#8 * cc.code, loByte a16, hiByte a16] (Form.toInstr (.callCond cc a16)) ∧
      ∃ t, exec (Form.toInstr (.callCond cc a16)) s = .next t ∧
        (s.cond cc = true →
          t.pc = a16 ∧ t.sp = s.sp - 2#16 ∧ t.readByte (s.sp - 1#16) = hiByte s.pc ∧
          t.readByte (s.sp - 2#16) = loByte s.pc ∧ t.cycles = s.cycles + 6 ∧ Frame (.pc :: pushParts s) s t) ∧
        (s.cond cc = false → t.cycles = s.cycles + 3 ∧ Frame [] s t))

/-- R227, R228, R229: a return pops PC, by a condition where there is one; RETI also enables interrupts at once. -/
def Obligations.Returns : Prop :=
  ∀ (cc : Cond) (s : State),
    let target := wordOf (s.readByte (s.sp + 1#16)) (s.readByte s.sp)
    (Encodes [0xC9#8] .ret ∧ ∃ t, exec .ret s = .next t ∧
      t.pc = target ∧ t.sp = s.sp + 2#16 ∧ t.cycles = s.cycles + 4 ∧ Frame [.pc, .sp] s t) ∧
    (Encodes [0xC0#8 + 8#8 * cc.code] (Form.toInstr (.retCond cc)) ∧
      ∃ t, exec (Form.toInstr (.retCond cc)) s = .next t ∧
        (s.cond cc = true →
          t.pc = target ∧ t.sp = s.sp + 2#16 ∧ t.cycles = s.cycles + 5 ∧ Frame [.pc, .sp] s t) ∧
        (s.cond cc = false → t.cycles = s.cycles + 2 ∧ Frame [] s t)) ∧
    (Encodes [0xD9#8] .reti ∧ ∃ t, exec .reti s = .next t ∧
      t.pc = target ∧ t.sp = s.sp + 2#16 ∧ t.ime = true ∧ (s.params.eiDelay = .one → t.imePending = false) ∧
      t.cycles = s.cycles + 4 ∧ Frame [.pc, .sp, .ime, .imePending] s t)

/-- R230: RST pushes the address of the next instruction and jumps to eight times its field. -/
def Obligations.Restart : Prop :=
  ∀ (y : Index8) (s : State), s.mem.wf = true →
    Encodes [0xC7#8 + 8#8 * BitVec.ofNat 8 y.val] (Form.toInstr (.rst y)) ∧
    ∃ t, exec (Form.toInstr (.rst y)) s = .next t ∧
      t.pc.toNat = 8 * y.val ∧ t.sp = s.sp - 2#16 ∧ t.readByte (s.sp - 1#16) = hiByte s.pc ∧
      t.readByte (s.sp - 2#16) = loByte s.pc ∧ t.cycles = s.cycles + 4 ∧ Frame (.pc :: pushParts s) s t

/-- A RET after a CALL returns to the instruction after the call with SP as it was, and the two together change nothing
but the two stack bytes (43_control.md section 2; 95_test_vectors.md E6). -/
def Obligations.RetUndoesCall : Prop :=
  ∀ (a16 : Word) (s : State), s.mem.wf = true →
    ∃ t u, exec (.call_a16 a16) s = .next t ∧ exec .ret t = .next u ∧
      u.cycles = s.cycles + 10 ∧ Frame [.byte (s.sp - 1#16), .byte (s.sp - 2#16)] s u

/-! ## Rotates, shifts and bits (44_rotate_shift.md, 45_bit.md) -/

/-- R241 to R244: RLCA, RRCA, RLA and RRA rotate A like the CB forms, but clear Z. -/
def Obligations.RotateAccumulator : Prop :=
  ∀ s : State,
    let v := (s.readReg .a).toNat
    let c := s.flags.c.toNat
    let does := fun (i : Instr) (op : RotOp) => ∃ t, exec i s = .next t ∧
      (t.readReg .a).toNat = rotateValue op v c ∧
      t.flags = { z := false, n := false, h := false, c := rotateOut op v } ∧
      t.cycles = s.cycles + 1 ∧ Frame (.reg .a :: allFlags) s t
    (Encodes [0x07#8] .rlca ∧ does .rlca .rlc) ∧ (Encodes [0x0F#8] .rrca ∧ does .rrca .rrc) ∧
    (Encodes [0x17#8] .rla ∧ does .rla .rl) ∧ (Encodes [0x1F#8] .rra ∧ does .rra .rr)

/-- R245, R247, R249, R251, R253, R255, R259: a CB rotate or shift of a register. -/
def Obligations.RotateRegister : Prop :=
  ∀ (op : RotOp) (r : Reg8) (s : State), op ≠ .swap →
    let v := (s.readReg r).toNat
    let res := rotateValue op v s.flags.c.toNat
    Encodes [0xCB#8, 8#8 * op.code + r.code] (Form.toInstr (.rotReg op r)) ∧
    ∃ t, exec (Form.toInstr (.rotReg op r)) s = .next t ∧
      (t.readReg r).toNat = res ∧
      t.flags = { z := decide (res = 0), n := false, h := false, c := rotateOut op v } ∧
      t.cycles = s.cycles + 2 ∧ Frame (.reg r :: allFlags) s t

/-- R246, R248, R250, R252, R254, R256, R260: a CB rotate or shift of the byte at HL. -/
def Obligations.RotateMemory : Prop :=
  ∀ (op : RotOp) (s : State), op ≠ .swap → s.mem.wf = true →
    let v := (s.readByte s.hl).toNat
    let res := rotateValue op v s.flags.c.toNat
    Encodes [0xCB#8, 8#8 * op.code + 6#8] (Form.toInstr (.rotMem op)) ∧
    ∃ t, exec (Form.toInstr (.rotMem op)) s = .next t ∧
      (t.readByte s.hl).toNat = res ∧
      t.flags = { z := decide (res = 0), n := false, h := false, c := rotateOut op v } ∧
      t.cycles = s.cycles + 4 ∧ Frame (.byte s.hl :: allFlags) s t

/-- SWAP exchanges the two digits of its operand and clears C. C = 0 is the spec's own choice (44_rotate_shift.md R257
and R258, decision D19). -/
def Obligations.SwapNibbles : Prop :=
  (∀ (r : Reg8) (s : State),
    let res := 16 * ((s.readReg r).toNat % 16) + (s.readReg r).toNat / 16
    Encodes [0xCB#8, 0x30#8 + r.code] (Form.toInstr (.rotReg .swap r)) ∧
    ∃ t, exec (Form.toInstr (.rotReg .swap r)) s = .next t ∧
      (t.readReg r).toNat = res ∧
      t.flags = { z := decide (res = 0), n := false, h := false, c := false } ∧
      t.cycles = s.cycles + 2 ∧ Frame (.reg r :: allFlags) s t) ∧
  (∀ s : State, s.mem.wf = true →
    let res := 16 * ((s.readByte s.hl).toNat % 16) + (s.readByte s.hl).toNat / 16
    Encodes [0xCB#8, 0x36#8] .swap_mHL ∧
    ∃ t, exec .swap_mHL s = .next t ∧
      (t.readByte s.hl).toNat = res ∧
      t.flags = { z := decide (res = 0), n := false, h := false, c := false } ∧
      t.cycles = s.cycles + 4 ∧ Frame (.byte s.hl :: allFlags) s t)

/-- R270 and R271: BIT writes the complement of the tested bit to Z, clears N, sets H and writes nothing else. -/
def Obligations.TestBit : Prop :=
  ∀ (b : Index8) (r : Reg8) (s : State),
    (Encodes [0xCB#8, 0x40#8 + 8#8 * BitVec.ofNat 8 b.val + r.code] (Form.toInstr (.bitReg b r)) ∧
      ∃ t, exec (Form.toInstr (.bitReg b r)) s = .next t ∧
        t.flags = { z := !(s.readReg r).getLsbD b.val, n := false, h := true, c := s.flags.c } ∧
        t.cycles = s.cycles + 2 ∧ Frame [.z, .n, .h] s t) ∧
    (Encodes [0xCB#8, 0x46#8 + 8#8 * BitVec.ofNat 8 b.val] (Form.toInstr (.bitMem b)) ∧
      ∃ t, exec (Form.toInstr (.bitMem b)) s = .next t ∧
        t.flags = { z := !(s.readByte s.hl).getLsbD b.val, n := false, h := true, c := s.flags.c } ∧
        t.cycles = s.cycles + 3 ∧ Frame [.z, .n, .h] s t)

/-- R272 to R275: RES clears and SET sets one bit of a register or of the byte at HL, and writes no flag. -/
def Obligations.ResetAndSetBit : Prop :=
  (∀ (b : Index8) (r : Reg8) (s : State),
    (Encodes [0xCB#8, 0x80#8 + 8#8 * BitVec.ofNat 8 b.val + r.code] (Form.toInstr (.resReg b r)) ∧
      ∃ t, exec (Form.toInstr (.resReg b r)) s = .next t ∧
        (∀ k, k < 8 → (t.readReg r).getLsbD k = if k = b.val then false else (s.readReg r).getLsbD k) ∧
        t.cycles = s.cycles + 2 ∧ Frame [.reg r] s t) ∧
    (Encodes [0xCB#8, 0xC0#8 + 8#8 * BitVec.ofNat 8 b.val + r.code] (Form.toInstr (.setReg b r)) ∧
      ∃ t, exec (Form.toInstr (.setReg b r)) s = .next t ∧
        (∀ k, k < 8 → (t.readReg r).getLsbD k = if k = b.val then true else (s.readReg r).getLsbD k) ∧
        t.cycles = s.cycles + 2 ∧ Frame [.reg r] s t)) ∧
  (∀ (b : Index8) (s : State), s.mem.wf = true →
    (Encodes [0xCB#8, 0x86#8 + 8#8 * BitVec.ofNat 8 b.val] (Form.toInstr (.resMem b)) ∧
      ∃ t, exec (Form.toInstr (.resMem b)) s = .next t ∧
        (∀ k, k < 8 → (t.readByte s.hl).getLsbD k = if k = b.val then false else (s.readByte s.hl).getLsbD k) ∧
        t.cycles = s.cycles + 4 ∧ Frame [.byte s.hl] s t) ∧
    (Encodes [0xCB#8, 0xC6#8 + 8#8 * BitVec.ofNat 8 b.val] (Form.toInstr (.setMem b)) ∧
      ∃ t, exec (Form.toInstr (.setMem b)) s = .next t ∧
        (∀ k, k < 8 → (t.readByte s.hl).getLsbD k = if k = b.val then true else (s.readByte s.hl).getLsbD k) ∧
        t.cycles = s.cycles + 4 ∧ Frame [.byte s.hl] s t))

/-! ## Miscellaneous (46_misc.md) -/

/-- R280, R281, R282: NOP does nothing, HALT and STOP write the run state, later steps are then idle and the wake input
sets Running; STOP's second byte is any byte. -/
def Obligations.NopHaltStop : Prop :=
  ∀ (b1 : Byte) (s : State),
    (Encodes [0x00#8] .nop ∧ ∃ t, exec .nop s = .next t ∧ t.cycles = s.cycles + 1 ∧ Frame [] s t) ∧
    (Encodes [0x76#8] .halt ∧ ∃ t, exec .halt s = .next t ∧
      t.run = .halted ∧ t.cycles = s.cycles + 1 ∧ Frame [.run] s t ∧
      step t = .next { t with cycles := t.cycles + 1 } ∧ drive .wake t = .next { t with run := .running }) ∧
    (Encodes [0x10#8, b1] (.stop b1) ∧ ∃ t, exec (.stop b1) s = .next t ∧
      t.run = .stopped ∧ t.cycles = s.cycles + 1 ∧ Frame [.run] s t ∧
      step t = .next { t with cycles := t.cycles + 1 } ∧ drive .wake t = .next { t with run := .running })

/-- DI disables interrupts at once and cancels a pending EI; EI enables them at once with P_EI_DELAY = 0, and with 1
leaves the enable pending (46_misc.md section 1; the end of the next step is
`Obligations.PendingEiCompletesAfterOneStep`). That EI leaves an enable pending also when ime is already 1, where R284
says that it has no effect, is the model's reading (log 17). -/
def Obligations.DiAndEi : Prop :=
  ∀ s : State,
    (Encodes [0xF3#8] .di ∧ ∃ t, exec .di s = .next t ∧
      t.ime = false ∧ (s.params.eiDelay = .one → t.imePending = false) ∧
      t.cycles = s.cycles + 1 ∧ Frame [.ime, .imePending] s t) ∧
    (Encodes [0xFB#8] .ei ∧ ∃ t, exec .ei s = .next t ∧
      (s.params.eiDelay = .zero → t.ime = true ∧ Frame [.ime] s t) ∧
      (s.params.eiDelay = .one → t.imePending = true ∧ Frame [.imePending] s t) ∧
      t.cycles = s.cycles + 1)

/-- With P_EI_DELAY = 1 an EI that is pending when a step begins is pending no more when it ends: ime is then 1, unless
the step's instruction was DI, which cancels it (46_misc.md section 1, decision D9). -/
def Obligations.PendingEiCompletesAfterOneStep : Prop :=
  ∀ s t : State, s.params.eiDelay = .one → s.imePending = true → s.run = .running → step s = .next t →
    t.imePending = false ∧ (t.ime = true ↔ (s.fetchDecode s.pc).1 ≠ .di)

/-- DAA: both corrections use A and the flags as they were. The table is the spec's own choice (46_misc.md R285,
decision D20). -/
def Obligations.DecimalAdjust : Prop :=
  ∀ s : State,
    let a := (s.readReg .a).toNat
    let high := s.flags.c = true ∨ (s.flags.n = false ∧ a > 0x99)
    let low := s.flags.h = true ∨ (s.flags.n = false ∧ a % 16 > 9)
    let adj := (if high then 0x60 else 0) + (if low then 0x06 else 0)
    let res := if s.flags.n = true then (a + 256 - adj) % 256 else (a + adj) % 256
    Encodes [0x27#8] .daa ∧
    ∃ t, exec .daa s = .next t ∧
      (t.readReg .a).toNat = res ∧
      t.flags = { z := decide (res = 0), n := s.flags.n, h := false, c := decide high } ∧
      t.cycles = s.cycles + 1 ∧ Frame [.reg .a, .z, .h, .c] s t

/-- ADD or ADC and then DAA add binary-coded decimal bytes, and SUB or SBC and then DAA subtract them, with C the
decimal carry or borrow (46_misc.md section 2, what DAA is for). It rests on the DAA table, the spec's own choice
(decision D20), and on the carries of ADC and SBC, the spec's own inference (40_alu8.md R135 to R137 and R141 to R143). -/
def Obligations.DaaMakesDecimalArithmetic : Prop :=
  ∀ (src : Source) (s : State), IsBcd (s.readReg .a) → IsBcd (s.sourceValue src) →
    let a := bcdValue (s.readReg .a)
    let v := bcdValue (s.sourceValue src)
    let c := s.flags.c.toNat
    (∃ t u, exec (Form.toInstr (.alu .add src)) s = .next t ∧ exec .daa t = .next u ∧ IsBcd (u.readReg .a) ∧
      bcdValue (u.readReg .a) + 100 * u.flags.c.toNat = a + v) ∧
    (∃ t u, exec (Form.toInstr (.alu .adc src)) s = .next t ∧ exec .daa t = .next u ∧ IsBcd (u.readReg .a) ∧
      bcdValue (u.readReg .a) + 100 * u.flags.c.toNat = a + v + c) ∧
    (∃ t u, exec (Form.toInstr (.alu .sub src)) s = .next t ∧ exec .daa t = .next u ∧ IsBcd (u.readReg .a) ∧
      bcdValue (u.readReg .a) + v = a + 100 * u.flags.c.toNat) ∧
    (∃ t u, exec (Form.toInstr (.alu .sbc src)) s = .next t ∧ exec .daa t = .next u ∧ IsBcd (u.readReg .a) ∧
      bcdValue (u.readReg .a) + v + c = a + 100 * u.flags.c.toNat)

/-- R286, R287, R288: CPL complements A and sets N and H; SCF sets and CCF complements C, and both clear N and H. -/
def Obligations.ComplementAndCarryFlag : Prop :=
  ∀ s : State,
    (Encodes [0x2F#8] .cpl ∧ ∃ t, exec .cpl s = .next t ∧
      (t.readReg .a).toNat = 255 - (s.readReg .a).toNat ∧
      t.flags = { z := s.flags.z, n := true, h := true, c := s.flags.c } ∧
      t.cycles = s.cycles + 1 ∧ Frame [.reg .a, .n, .h] s t) ∧
    (Encodes [0x37#8] .scf ∧ ∃ t, exec .scf s = .next t ∧
      t.flags = { z := s.flags.z, n := false, h := false, c := true } ∧
      t.cycles = s.cycles + 1 ∧ Frame [.n, .h, .c] s t) ∧
    (Encodes [0x3F#8] .ccf ∧ ∃ t, exec .ccf s = .next t ∧
      t.flags = { z := s.flags.z, n := false, h := false, c := !s.flags.c } ∧
      t.cycles = s.cycles + 1 ∧ Frame [.n, .h, .c] s t)

/-! ## Interrupts, wake and reset (60_exceptions.md, 70_reset_and_hazards.md) -/

/-- R308: interrupt entry clears ime and ime_pending, leaves Halted and Stopped, pushes PC, goes to the vector and costs
five M-cycles; while ime = 0 it is refused. -/
def Obligations.InterruptEntry : Prop :=
  ∀ (s : State) (v : Word),
    (s.mem.wf = true → s.ime = true → v ∈ s.params.interruptVectors →
      ∃ t, s.interruptEntry v = .next t ∧
        t.ime = false ∧ (s.params.eiDelay = .one → t.imePending = false) ∧ t.run = .running ∧
        t.readByte (s.sp - 1#16) = hiByte s.pc ∧ t.readByte (s.sp - 2#16) = loByte s.pc ∧
        t.sp = s.sp - 2#16 ∧ t.pc = v ∧ t.cycles = s.cycles + 5 ∧
        Frame (.ime :: .imePending :: .run :: .pc :: pushParts s) s t) ∧
    (s.ime = false → s.interruptEntry v = .refused .interruptsDisabled)

/-- RETI at once after an interrupt entry resumes at the interrupted instruction with SP as it was and interrupts
enabled; the two together change nothing but the run state, the enable state and the two stack bytes (60_exceptions.md
section 2). That an address outside P_INTERRUPT_VECTORS is refused is the model's reading (log 11). -/
def Obligations.RetiUndoesInterruptEntry : Prop :=
  ∀ (s : State) (v : Word), s.mem.wf = true → s.ime = true →
    (v ∈ s.params.interruptVectors →
      ∃ t u, s.interruptEntry v = .next t ∧ exec .reti t = .next u ∧
        u.pc = s.pc ∧ u.sp = s.sp ∧ u.ime = true ∧
        Frame [.imePending, .run, .byte (s.sp - 1#16), .byte (s.sp - 2#16)] s u) ∧
    (v ∉ s.params.interruptVectors → s.interruptEntry v = .refused (.notAnInterruptVector v))

/-- What reset leaves under each profile, for any parameters, any draw of the registers HardwareReset leaves
unspecified, and any initial memory; under HardwareReset those registers hold the draw, F with bits 3..0 zero
(70_reset_and_hazards.md section 1). That ime_pending is 0 also with P_EI_DELAY = 0, where it does not exist, is the
model's reading (log 4). -/
def Obligations.ResetState : Prop :=
  ∀ (params : Params) (draw : RegisterDraw) (f : Word → Byte),
    let hw := State.resetFrom .hardwareReset params draw f
    let dmg := State.resetFrom .postBootDMG params draw f
    (hw.pc = 0x0000#16 ∧ hw.ime = false ∧ hw.imePending = false ∧ hw.run = .running ∧ hw.cycles = 0 ∧
      hw.readReg .a = draw.a ∧ hw.readReg .b = draw.b ∧ hw.readReg .c = draw.c ∧ hw.readReg .d = draw.d ∧
      hw.readReg .e = draw.e ∧ hw.readReg .h = draw.h ∧ hw.readReg .l = draw.l ∧ hw.sp = draw.sp ∧
      hw.f = draw.f &&& 0xF0#8 ∧ hw.f &&& 0x0F#8 = 0#8 ∧ hw.params = params ∧ ∀ a, hw.readByte a = f a) ∧
    (dmg.readReg .a = 0x01#8 ∧ dmg.f = 0xB0#8 ∧ dmg.flags = { z := true, n := false, h := true, c := true } ∧
      dmg.readReg .b = 0x00#8 ∧ dmg.readReg .c = 0x13#8 ∧ dmg.readReg .d = 0x00#8 ∧ dmg.readReg .e = 0xD8#8 ∧
      dmg.readReg .h = 0x01#8 ∧ dmg.readReg .l = 0x4D#8 ∧ dmg.sp = 0xFFFE#16 ∧ dmg.pc = 0x0100#16 ∧
      dmg.ime = false ∧ dmg.imePending = false ∧ dmg.run = .running ∧ dmg.cycles = 0 ∧ dmg.params = params ∧
      ∀ a, dmg.readByte a = f a)
end

