-- ==== Sys2Proof/Laws/Decode.lean ====
section
/-! SUPPORT. The decoder unfolded once: a list of bytes by the length its first byte gives, and a fetch as the decoder on
the bytes at an address. -/

namespace Sys2Proof

theorem decode_cons (b0 : Byte) (tail : List Byte) :
    decode (b0 :: tail) =
      match instrLength b0, tail with
      | 1, rest => .ok (decodeBytes b0 0#8 0#8, rest)
      | 2, b1 :: rest => .ok (decodeBytes b0 b1 0#8, rest)
      | 3, b1 :: b2 :: rest => .ok (decodeBytes b0 b1 b2, rest)
      | _, _ => .error .truncated :=
  rfl

/-- An instruction is 1, 2 or 3 bytes long (30_encoding.md R90). -/
theorem instrLength_cases (b0 : Byte) : instrLength b0 = 1 ∨ instrLength b0 = 2 ∨ instrLength b0 = 3 := by
  unfold instrLength
  split
  · exact .inr (.inr rfl)
  · split
    · exact .inr (.inl rfl)
    · exact .inl rfl

/-- What decoding a list of bytes reads: the instruction of its first bytes, and the bytes after them. -/
theorem decode_ok {b0 : Byte} {tail rest : List Byte} {i : Instr} (h : decode (b0 :: tail) = .ok (i, rest)) :
    ∃ b1 b2, i = decodeBytes b0 b1 b2 ∧ b0 :: tail = [b0, b1, b2].take (instrLength b0) ++ rest := by
  rw [decode_cons] at h
  rcases instrLength_cases b0 with hl | hl | hl <;> rw [hl] at h ⊢
  · cases h
    exact ⟨0#8, 0#8, rfl, rfl⟩
  · match tail, h with
    | b1 :: _, h =>
      cases h
      exact ⟨b1, 0#8, rfl, rfl⟩
  · match tail, h with
    | b1 :: b2 :: _, h =>
      cases h
      exact ⟨b1, b2, rfl, rfl⟩

namespace Machine

/-- A fetch is the decoder on the three bytes at the address (30_encoding.md R105). -/
theorem State.decode_fetch (s : State) (pc : Word) :
    ∃ rest, decode [s.readByte pc, s.readByte (pc + 1#16), s.readByte (pc + 2#16)] =
        .ok ((s.fetchDecode pc).1, rest) ∧
      rest.length = 3 - (s.fetchDecode pc).2 := by
  rw [decode_cons]
  unfold State.fetchDecode
  rcases instrLength_cases (s.readByte pc) with hl | hl | hl <;> simp only [hl]
  · exact ⟨[s.readByte (pc + 1#16), s.readByte (pc + 2#16)], rfl, rfl⟩
  · exact ⟨[s.readByte (pc + 2#16)], rfl, rfl⟩
  · exact ⟨[], rfl, rfl⟩

end Machine

end Sys2Proof
end

