-- ==== Sys2Proof/Laws/Forms.lean ====
section
/-! SUPPORT. Every instruction is a form, and `exec` of a form is one shared operation: a proof about all 501
instructions is a case split over the forms. -/

namespace Sys2Proof

/-- The form of an instruction: the inverse of `Form.toInstr`. -/
def Instr.form : Instr → Form
  | .nop => .nop
  | .ld_bc_d16 d16 => .ldPairImm .bc d16
  | .ld_mBC_a => .ldBcA
  | .inc_bc => .incPair .bc
  | .inc_b => .incReg .b
  | .dec_b => .decReg .b
  | .ld_b_d8 d8 => .ldRegImm .b d8
  | .rlca => .rlca
  | .ld_mA16_sp a16 => .ldAddrSp a16
  | .add_hl_bc => .addHl .bc
  | .ld_a_mBC => .ldABc
  | .dec_bc => .decPair .bc
  | .inc_c => .incReg .c
  | .dec_c => .decReg .c
  | .ld_c_d8 d8 => .ldRegImm .c d8
  | .rrca => .rrca
  | .stop b1 => .stop b1
  | .ld_de_d16 d16 => .ldPairImm .de d16
  | .ld_mDE_a => .ldDeA
  | .inc_de => .incPair .de
  | .inc_d => .incReg .d
  | .dec_d => .decReg .d
  | .ld_d_d8 d8 => .ldRegImm .d d8
  | .rla => .rla
  | .jr_e8 e8 => .jr e8
  | .add_hl_de => .addHl .de
  | .ld_a_mDE => .ldADe
  | .dec_de => .decPair .de
  | .inc_e => .incReg .e
  | .dec_e => .decReg .e
  | .ld_e_d8 d8 => .ldRegImm .e d8
  | .rra => .rra
  | .jr_nz_e8 e8 => .jrCond .nz e8
  | .ld_hl_d16 d16 => .ldPairImm .hl d16
  | .ld_mHLinc_a => .ldHlIncA
  | .inc_hl => .incPair .hl
  | .inc_h => .incReg .h
  | .dec_h => .decReg .h
  | .ld_h_d8 d8 => .ldRegImm .h d8
  | .daa => .daa
  | .jr_z_e8 e8 => .jrCond .z e8
  | .add_hl_hl => .addHl .hl
  | .ld_a_mHLinc => .ldAHlInc
  | .dec_hl => .decPair .hl
  | .inc_l => .incReg .l
  | .dec_l => .decReg .l
  | .ld_l_d8 d8 => .ldRegImm .l d8
  | .cpl => .cpl
  | .jr_nc_e8 e8 => .jrCond .nc e8
  | .ld_sp_d16 d16 => .ldPairImm .sp d16
  | .ld_mHLdec_a => .ldHlDecA
  | .inc_sp => .incPair .sp
  | .inc_mHL => .incMem
  | .dec_mHL => .decMem
  | .ld_mHL_d8 d8 => .ldMemImm d8
  | .scf => .scf
  | .jr_c_e8 e8 => .jrCond .c e8
  | .add_hl_sp => .addHl .sp
  | .ld_a_mHLdec => .ldAHlDec
  | .dec_sp => .decPair .sp
  | .inc_a => .incReg .a
  | .dec_a => .decReg .a
  | .ld_a_d8 d8 => .ldRegImm .a d8
  | .ccf => .ccf
  | .ld_b_b => .ldRegReg .b .b
  | .ld_b_c => .ldRegReg .b .c
  | .ld_b_d => .ldRegReg .b .d
  | .ld_b_e => .ldRegReg .b .e
  | .ld_b_h => .ldRegReg .b .h
  | .ld_b_l => .ldRegReg .b .l
  | .ld_b_mHL => .ldRegMem .b
  | .ld_b_a => .ldRegReg .b .a
  | .ld_c_b => .ldRegReg .c .b
  | .ld_c_c => .ldRegReg .c .c
  | .ld_c_d => .ldRegReg .c .d
  | .ld_c_e => .ldRegReg .c .e
  | .ld_c_h => .ldRegReg .c .h
  | .ld_c_l => .ldRegReg .c .l
  | .ld_c_mHL => .ldRegMem .c
  | .ld_c_a => .ldRegReg .c .a
  | .ld_d_b => .ldRegReg .d .b
  | .ld_d_c => .ldRegReg .d .c
  | .ld_d_d => .ldRegReg .d .d
  | .ld_d_e => .ldRegReg .d .e
  | .ld_d_h => .ldRegReg .d .h
  | .ld_d_l => .ldRegReg .d .l
  | .ld_d_mHL => .ldRegMem .d
  | .ld_d_a => .ldRegReg .d .a
  | .ld_e_b => .ldRegReg .e .b
  | .ld_e_c => .ldRegReg .e .c
  | .ld_e_d => .ldRegReg .e .d
  | .ld_e_e => .ldRegReg .e .e
  | .ld_e_h => .ldRegReg .e .h
  | .ld_e_l => .ldRegReg .e .l
  | .ld_e_mHL => .ldRegMem .e
  | .ld_e_a => .ldRegReg .e .a
  | .ld_h_b => .ldRegReg .h .b
  | .ld_h_c => .ldRegReg .h .c
  | .ld_h_d => .ldRegReg .h .d
  | .ld_h_e => .ldRegReg .h .e
  | .ld_h_h => .ldRegReg .h .h
  | .ld_h_l => .ldRegReg .h .l
  | .ld_h_mHL => .ldRegMem .h
  | .ld_h_a => .ldRegReg .h .a
  | .ld_l_b => .ldRegReg .l .b
  | .ld_l_c => .ldRegReg .l .c
  | .ld_l_d => .ldRegReg .l .d
  | .ld_l_e => .ldRegReg .l .e
  | .ld_l_h => .ldRegReg .l .h
  | .ld_l_l => .ldRegReg .l .l
  | .ld_l_mHL => .ldRegMem .l
  | .ld_l_a => .ldRegReg .l .a
  | .ld_mHL_b => .ldMemReg .b
  | .ld_mHL_c => .ldMemReg .c
  | .ld_mHL_d => .ldMemReg .d
  | .ld_mHL_e => .ldMemReg .e
  | .ld_mHL_h => .ldMemReg .h
  | .ld_mHL_l => .ldMemReg .l
  | .halt => .halt
  | .ld_mHL_a => .ldMemReg .a
  | .ld_a_b => .ldRegReg .a .b
  | .ld_a_c => .ldRegReg .a .c
  | .ld_a_d => .ldRegReg .a .d
  | .ld_a_e => .ldRegReg .a .e
  | .ld_a_h => .ldRegReg .a .h
  | .ld_a_l => .ldRegReg .a .l
  | .ld_a_mHL => .ldRegMem .a
  | .ld_a_a => .ldRegReg .a .a
  | .add_a_b => .alu .add (.reg .b)
  | .add_a_c => .alu .add (.reg .c)
  | .add_a_d => .alu .add (.reg .d)
  | .add_a_e => .alu .add (.reg .e)
  | .add_a_h => .alu .add (.reg .h)
  | .add_a_l => .alu .add (.reg .l)
  | .add_a_mHL => .alu .add .mem
  | .add_a_a => .alu .add (.reg .a)
  | .adc_a_b => .alu .adc (.reg .b)
  | .adc_a_c => .alu .adc (.reg .c)
  | .adc_a_d => .alu .adc (.reg .d)
  | .adc_a_e => .alu .adc (.reg .e)
  | .adc_a_h => .alu .adc (.reg .h)
  | .adc_a_l => .alu .adc (.reg .l)
  | .adc_a_mHL => .alu .adc .mem
  | .adc_a_a => .alu .adc (.reg .a)
  | .sub_b => .alu .sub (.reg .b)
  | .sub_c => .alu .sub (.reg .c)
  | .sub_d => .alu .sub (.reg .d)
  | .sub_e => .alu .sub (.reg .e)
  | .sub_h => .alu .sub (.reg .h)
  | .sub_l => .alu .sub (.reg .l)
  | .sub_mHL => .alu .sub .mem
  | .sub_a => .alu .sub (.reg .a)
  | .sbc_a_b => .alu .sbc (.reg .b)
  | .sbc_a_c => .alu .sbc (.reg .c)
  | .sbc_a_d => .alu .sbc (.reg .d)
  | .sbc_a_e => .alu .sbc (.reg .e)
  | .sbc_a_h => .alu .sbc (.reg .h)
  | .sbc_a_l => .alu .sbc (.reg .l)
  | .sbc_a_mHL => .alu .sbc .mem
  | .sbc_a_a => .alu .sbc (.reg .a)
  | .and_b => .alu .and (.reg .b)
  | .and_c => .alu .and (.reg .c)
  | .and_d => .alu .and (.reg .d)
  | .and_e => .alu .and (.reg .e)
  | .and_h => .alu .and (.reg .h)
  | .and_l => .alu .and (.reg .l)
  | .and_mHL => .alu .and .mem
  | .and_a => .alu .and (.reg .a)
  | .xor_b => .alu .xor (.reg .b)
  | .xor_c => .alu .xor (.reg .c)
  | .xor_d => .alu .xor (.reg .d)
  | .xor_e => .alu .xor (.reg .e)
  | .xor_h => .alu .xor (.reg .h)
  | .xor_l => .alu .xor (.reg .l)
  | .xor_mHL => .alu .xor .mem
  | .xor_a => .alu .xor (.reg .a)
  | .or_b => .alu .or (.reg .b)
  | .or_c => .alu .or (.reg .c)
  | .or_d => .alu .or (.reg .d)
  | .or_e => .alu .or (.reg .e)
  | .or_h => .alu .or (.reg .h)
  | .or_l => .alu .or (.reg .l)
  | .or_mHL => .alu .or .mem
  | .or_a => .alu .or (.reg .a)
  | .cp_b => .alu .cp (.reg .b)
  | .cp_c => .alu .cp (.reg .c)
  | .cp_d => .alu .cp (.reg .d)
  | .cp_e => .alu .cp (.reg .e)
  | .cp_h => .alu .cp (.reg .h)
  | .cp_l => .alu .cp (.reg .l)
  | .cp_mHL => .alu .cp .mem
  | .cp_a => .alu .cp (.reg .a)
  | .ret_nz => .retCond .nz
  | .pop_bc => .pop .bc
  | .jp_nz_a16 a16 => .jpCond .nz a16
  | .jp_a16 a16 => .jp a16
  | .call_nz_a16 a16 => .callCond .nz a16
  | .push_bc => .push .bc
  | .add_a_d8 d8 => .alu .add (.imm d8)
  | .rst_00h => .rst .i0
  | .ret_z => .retCond .z
  | .ret => .ret
  | .jp_z_a16 a16 => .jpCond .z a16
  | .call_z_a16 a16 => .callCond .z a16
  | .call_a16 a16 => .call a16
  | .adc_a_d8 d8 => .alu .adc (.imm d8)
  | .rst_08h => .rst .i1
  | .ret_nc => .retCond .nc
  | .pop_de => .pop .de
  | .jp_nc_a16 a16 => .jpCond .nc a16
  | .illegal opcode => .illegal opcode
  | .call_nc_a16 a16 => .callCond .nc a16
  | .push_de => .push .de
  | .sub_d8 d8 => .alu .sub (.imm d8)
  | .rst_10h => .rst .i2
  | .ret_c => .retCond .c
  | .reti => .reti
  | .jp_c_a16 a16 => .jpCond .c a16
  | .call_c_a16 a16 => .callCond .c a16
  | .sbc_a_d8 d8 => .alu .sbc (.imm d8)
  | .rst_18h => .rst .i3
  | .ldh_mA8_a a8 => .ldhImmA a8
  | .pop_hl => .pop .hl
  | .ld_mC_a => .ldCA
  | .push_hl => .push .hl
  | .and_d8 d8 => .alu .and (.imm d8)
  | .rst_20h => .rst .i4
  | .add_sp_e8 e8 => .addSp e8
  | .jp_hl => .jpHl
  | .ld_mA16_a a16 => .ldAddrA a16
  | .xor_d8 d8 => .alu .xor (.imm d8)
  | .rst_28h => .rst .i5
  | .ldh_a_mA8 a8 => .ldhAImm a8
  | .pop_af => .pop .af
  | .ld_a_mC => .ldAC
  | .di => .di
  | .push_af => .push .af
  | .or_d8 d8 => .alu .or (.imm d8)
  | .rst_30h => .rst .i6
  | .ld_hl_sp_e8 e8 => .ldHlSp e8
  | .ld_sp_hl => .ldSpHl
  | .ld_a_mA16 a16 => .ldAAddr a16
  | .ei => .ei
  | .cp_d8 d8 => .alu .cp (.imm d8)
  | .rst_38h => .rst .i7
  | .rlc_b => .rotReg .rlc .b
  | .rlc_c => .rotReg .rlc .c
  | .rlc_d => .rotReg .rlc .d
  | .rlc_e => .rotReg .rlc .e
  | .rlc_h => .rotReg .rlc .h
  | .rlc_l => .rotReg .rlc .l
  | .rlc_mHL => .rotMem .rlc
  | .rlc_a => .rotReg .rlc .a
  | .rrc_b => .rotReg .rrc .b
  | .rrc_c => .rotReg .rrc .c
  | .rrc_d => .rotReg .rrc .d
  | .rrc_e => .rotReg .rrc .e
  | .rrc_h => .rotReg .rrc .h
  | .rrc_l => .rotReg .rrc .l
  | .rrc_mHL => .rotMem .rrc
  | .rrc_a => .rotReg .rrc .a
  | .rl_b => .rotReg .rl .b
  | .rl_c => .rotReg .rl .c
  | .rl_d => .rotReg .rl .d
  | .rl_e => .rotReg .rl .e
  | .rl_h => .rotReg .rl .h
  | .rl_l => .rotReg .rl .l
  | .rl_mHL => .rotMem .rl
  | .rl_a => .rotReg .rl .a
  | .rr_b => .rotReg .rr .b
  | .rr_c => .rotReg .rr .c
  | .rr_d => .rotReg .rr .d
  | .rr_e => .rotReg .rr .e
  | .rr_h => .rotReg .rr .h
  | .rr_l => .rotReg .rr .l
  | .rr_mHL => .rotMem .rr
  | .rr_a => .rotReg .rr .a
  | .sla_b => .rotReg .sla .b
  | .sla_c => .rotReg .sla .c
  | .sla_d => .rotReg .sla .d
  | .sla_e => .rotReg .sla .e
  | .sla_h => .rotReg .sla .h
  | .sla_l => .rotReg .sla .l
  | .sla_mHL => .rotMem .sla
  | .sla_a => .rotReg .sla .a
  | .sra_b => .rotReg .sra .b
  | .sra_c => .rotReg .sra .c
  | .sra_d => .rotReg .sra .d
  | .sra_e => .rotReg .sra .e
  | .sra_h => .rotReg .sra .h
  | .sra_l => .rotReg .sra .l
  | .sra_mHL => .rotMem .sra
  | .sra_a => .rotReg .sra .a
  | .swap_b => .rotReg .swap .b
  | .swap_c => .rotReg .swap .c
  | .swap_d => .rotReg .swap .d
  | .swap_e => .rotReg .swap .e
  | .swap_h => .rotReg .swap .h
  | .swap_l => .rotReg .swap .l
  | .swap_mHL => .rotMem .swap
  | .swap_a => .rotReg .swap .a
  | .srl_b => .rotReg .srl .b
  | .srl_c => .rotReg .srl .c
  | .srl_d => .rotReg .srl .d
  | .srl_e => .rotReg .srl .e
  | .srl_h => .rotReg .srl .h
  | .srl_l => .rotReg .srl .l
  | .srl_mHL => .rotMem .srl
  | .srl_a => .rotReg .srl .a
  | .bit_0_b => .bitReg .i0 .b
  | .bit_0_c => .bitReg .i0 .c
  | .bit_0_d => .bitReg .i0 .d
  | .bit_0_e => .bitReg .i0 .e
  | .bit_0_h => .bitReg .i0 .h
  | .bit_0_l => .bitReg .i0 .l
  | .bit_0_mHL => .bitMem .i0
  | .bit_0_a => .bitReg .i0 .a
  | .bit_1_b => .bitReg .i1 .b
  | .bit_1_c => .bitReg .i1 .c
  | .bit_1_d => .bitReg .i1 .d
  | .bit_1_e => .bitReg .i1 .e
  | .bit_1_h => .bitReg .i1 .h
  | .bit_1_l => .bitReg .i1 .l
  | .bit_1_mHL => .bitMem .i1
  | .bit_1_a => .bitReg .i1 .a
  | .bit_2_b => .bitReg .i2 .b
  | .bit_2_c => .bitReg .i2 .c
  | .bit_2_d => .bitReg .i2 .d
  | .bit_2_e => .bitReg .i2 .e
  | .bit_2_h => .bitReg .i2 .h
  | .bit_2_l => .bitReg .i2 .l
  | .bit_2_mHL => .bitMem .i2
  | .bit_2_a => .bitReg .i2 .a
  | .bit_3_b => .bitReg .i3 .b
  | .bit_3_c => .bitReg .i3 .c
  | .bit_3_d => .bitReg .i3 .d
  | .bit_3_e => .bitReg .i3 .e
  | .bit_3_h => .bitReg .i3 .h
  | .bit_3_l => .bitReg .i3 .l
  | .bit_3_mHL => .bitMem .i3
  | .bit_3_a => .bitReg .i3 .a
  | .bit_4_b => .bitReg .i4 .b
  | .bit_4_c => .bitReg .i4 .c
  | .bit_4_d => .bitReg .i4 .d
  | .bit_4_e => .bitReg .i4 .e
  | .bit_4_h => .bitReg .i4 .h
  | .bit_4_l => .bitReg .i4 .l
  | .bit_4_mHL => .bitMem .i4
  | .bit_4_a => .bitReg .i4 .a
  | .bit_5_b => .bitReg .i5 .b
  | .bit_5_c => .bitReg .i5 .c
  | .bit_5_d => .bitReg .i5 .d
  | .bit_5_e => .bitReg .i5 .e
  | .bit_5_h => .bitReg .i5 .h
  | .bit_5_l => .bitReg .i5 .l
  | .bit_5_mHL => .bitMem .i5
  | .bit_5_a => .bitReg .i5 .a
  | .bit_6_b => .bitReg .i6 .b
  | .bit_6_c => .bitReg .i6 .c
  | .bit_6_d => .bitReg .i6 .d
  | .bit_6_e => .bitReg .i6 .e
  | .bit_6_h => .bitReg .i6 .h
  | .bit_6_l => .bitReg .i6 .l
  | .bit_6_mHL => .bitMem .i6
  | .bit_6_a => .bitReg .i6 .a
  | .bit_7_b => .bitReg .i7 .b
  | .bit_7_c => .bitReg .i7 .c
  | .bit_7_d => .bitReg .i7 .d
  | .bit_7_e => .bitReg .i7 .e
  | .bit_7_h => .bitReg .i7 .h
  | .bit_7_l => .bitReg .i7 .l
  | .bit_7_mHL => .bitMem .i7
  | .bit_7_a => .bitReg .i7 .a
  | .res_0_b => .resReg .i0 .b
  | .res_0_c => .resReg .i0 .c
  | .res_0_d => .resReg .i0 .d
  | .res_0_e => .resReg .i0 .e
  | .res_0_h => .resReg .i0 .h
  | .res_0_l => .resReg .i0 .l
  | .res_0_mHL => .resMem .i0
  | .res_0_a => .resReg .i0 .a
  | .res_1_b => .resReg .i1 .b
  | .res_1_c => .resReg .i1 .c
  | .res_1_d => .resReg .i1 .d
  | .res_1_e => .resReg .i1 .e
  | .res_1_h => .resReg .i1 .h
  | .res_1_l => .resReg .i1 .l
  | .res_1_mHL => .resMem .i1
  | .res_1_a => .resReg .i1 .a
  | .res_2_b => .resReg .i2 .b
  | .res_2_c => .resReg .i2 .c
  | .res_2_d => .resReg .i2 .d
  | .res_2_e => .resReg .i2 .e
  | .res_2_h => .resReg .i2 .h
  | .res_2_l => .resReg .i2 .l
  | .res_2_mHL => .resMem .i2
  | .res_2_a => .resReg .i2 .a
  | .res_3_b => .resReg .i3 .b
  | .res_3_c => .resReg .i3 .c
  | .res_3_d => .resReg .i3 .d
  | .res_3_e => .resReg .i3 .e
  | .res_3_h => .resReg .i3 .h
  | .res_3_l => .resReg .i3 .l
  | .res_3_mHL => .resMem .i3
  | .res_3_a => .resReg .i3 .a
  | .res_4_b => .resReg .i4 .b
  | .res_4_c => .resReg .i4 .c
  | .res_4_d => .resReg .i4 .d
  | .res_4_e => .resReg .i4 .e
  | .res_4_h => .resReg .i4 .h
  | .res_4_l => .resReg .i4 .l
  | .res_4_mHL => .resMem .i4
  | .res_4_a => .resReg .i4 .a
  | .res_5_b => .resReg .i5 .b
  | .res_5_c => .resReg .i5 .c
  | .res_5_d => .resReg .i5 .d
  | .res_5_e => .resReg .i5 .e
  | .res_5_h => .resReg .i5 .h
  | .res_5_l => .resReg .i5 .l
  | .res_5_mHL => .resMem .i5
  | .res_5_a => .resReg .i5 .a
  | .res_6_b => .resReg .i6 .b
  | .res_6_c => .resReg .i6 .c
  | .res_6_d => .resReg .i6 .d
  | .res_6_e => .resReg .i6 .e
  | .res_6_h => .resReg .i6 .h
  | .res_6_l => .resReg .i6 .l
  | .res_6_mHL => .resMem .i6
  | .res_6_a => .resReg .i6 .a
  | .res_7_b => .resReg .i7 .b
  | .res_7_c => .resReg .i7 .c
  | .res_7_d => .resReg .i7 .d
  | .res_7_e => .resReg .i7 .e
  | .res_7_h => .resReg .i7 .h
  | .res_7_l => .resReg .i7 .l
  | .res_7_mHL => .resMem .i7
  | .res_7_a => .resReg .i7 .a
  | .set_0_b => .setReg .i0 .b
  | .set_0_c => .setReg .i0 .c
  | .set_0_d => .setReg .i0 .d
  | .set_0_e => .setReg .i0 .e
  | .set_0_h => .setReg .i0 .h
  | .set_0_l => .setReg .i0 .l
  | .set_0_mHL => .setMem .i0
  | .set_0_a => .setReg .i0 .a
  | .set_1_b => .setReg .i1 .b
  | .set_1_c => .setReg .i1 .c
  | .set_1_d => .setReg .i1 .d
  | .set_1_e => .setReg .i1 .e
  | .set_1_h => .setReg .i1 .h
  | .set_1_l => .setReg .i1 .l
  | .set_1_mHL => .setMem .i1
  | .set_1_a => .setReg .i1 .a
  | .set_2_b => .setReg .i2 .b
  | .set_2_c => .setReg .i2 .c
  | .set_2_d => .setReg .i2 .d
  | .set_2_e => .setReg .i2 .e
  | .set_2_h => .setReg .i2 .h
  | .set_2_l => .setReg .i2 .l
  | .set_2_mHL => .setMem .i2
  | .set_2_a => .setReg .i2 .a
  | .set_3_b => .setReg .i3 .b
  | .set_3_c => .setReg .i3 .c
  | .set_3_d => .setReg .i3 .d
  | .set_3_e => .setReg .i3 .e
  | .set_3_h => .setReg .i3 .h
  | .set_3_l => .setReg .i3 .l
  | .set_3_mHL => .setMem .i3
  | .set_3_a => .setReg .i3 .a
  | .set_4_b => .setReg .i4 .b
  | .set_4_c => .setReg .i4 .c
  | .set_4_d => .setReg .i4 .d
  | .set_4_e => .setReg .i4 .e
  | .set_4_h => .setReg .i4 .h
  | .set_4_l => .setReg .i4 .l
  | .set_4_mHL => .setMem .i4
  | .set_4_a => .setReg .i4 .a
  | .set_5_b => .setReg .i5 .b
  | .set_5_c => .setReg .i5 .c
  | .set_5_d => .setReg .i5 .d
  | .set_5_e => .setReg .i5 .e
  | .set_5_h => .setReg .i5 .h
  | .set_5_l => .setReg .i5 .l
  | .set_5_mHL => .setMem .i5
  | .set_5_a => .setReg .i5 .a
  | .set_6_b => .setReg .i6 .b
  | .set_6_c => .setReg .i6 .c
  | .set_6_d => .setReg .i6 .d
  | .set_6_e => .setReg .i6 .e
  | .set_6_h => .setReg .i6 .h
  | .set_6_l => .setReg .i6 .l
  | .set_6_mHL => .setMem .i6
  | .set_6_a => .setReg .i6 .a
  | .set_7_b => .setReg .i7 .b
  | .set_7_c => .setReg .i7 .c
  | .set_7_d => .setReg .i7 .d
  | .set_7_e => .setReg .i7 .e
  | .set_7_h => .setReg .i7 .h
  | .set_7_l => .setReg .i7 .l
  | .set_7_mHL => .setMem .i7
  | .set_7_a => .setReg .i7 .a

/-- No form is lost in `Instr`. -/
theorem Form.form_toInstr (f : Form) : f.toInstr.form = f := by
  cases f with
  | alu op src => cases op <;> cases src <;> (try rfl) <;> rename_i r <;> cases r <;> rfl
  | ldRegReg r r' => cases r <;> cases r' <;> rfl
  | rotReg op r => cases op <;> cases r <;> rfl
  | bitReg b r => cases b <;> cases r <;> rfl
  | resReg b r => cases b <;> cases r <;> rfl
  | setReg b r => cases b <;> cases r <;> rfl
  | _ => first
    | rfl
    | (rename_i x; cases x <;> rfl)
    | (rename_i x y; cases x <;> rfl)

/-- Every instruction is a form's. -/
theorem Instr.toInstr_form (i : Instr) : i.form.toInstr = i := by
  cases i <;> rfl

namespace Machine

/-- What `exec` does with a form: one shared operation, or UnknownOpcode. -/
def Form.run : Form → State → Result
  | .alu op src, s => .next (aluOp op src s)
  | .incReg r, s => .next (incRegOp r s)
  | .incMem, s => .next (incMemOp s)
  | .decReg r, s => .next (decRegOp r s)
  | .decMem, s => .next (decMemOp s)
  | .addHl rr, s => .next (addHlOp rr s)
  | .addSp e8, s => .next (addSpOp e8 s)
  | .incPair rr, s => .next (incPairOp rr s)
  | .decPair rr, s => .next (decPairOp rr s)
  | .ldRegReg r r', s => .next (ldRegRegOp r r' s)
  | .ldRegImm r d8, s => .next (ldRegImmOp r d8 s)
  | .ldRegMem r, s => .next (ldRegMemOp r s)
  | .ldMemReg r, s => .next (ldMemRegOp r s)
  | .ldMemImm d8, s => .next (ldMemImmOp d8 s)
  | .ldABc, s => .next (ldABcOp s)
  | .ldADe, s => .next (ldADeOp s)
  | .ldBcA, s => .next (ldBcAOp s)
  | .ldDeA, s => .next (ldDeAOp s)
  | .ldAAddr a16, s => .next (ldAAddrOp a16 s)
  | .ldAddrA a16, s => .next (ldAddrAOp a16 s)
  | .ldhAImm a8, s => .next (ldhAImmOp a8 s)
  | .ldhImmA a8, s => .next (ldhImmAOp a8 s)
  | .ldAC, s => .next (ldACOp s)
  | .ldCA, s => .next (ldCAOp s)
  | .ldHlIncA, s => .next (ldHlIncAOp s)
  | .ldHlDecA, s => .next (ldHlDecAOp s)
  | .ldAHlInc, s => .next (ldAHlIncOp s)
  | .ldAHlDec, s => .next (ldAHlDecOp s)
  | .ldPairImm rr d16, s => .next (ldPairImmOp rr d16 s)
  | .ldAddrSp a16, s => .next (ldAddrSpOp a16 s)
  | .ldSpHl, s => .next (ldSpHlOp s)
  | .ldHlSp e8, s => .next (ldHlSpOp e8 s)
  | .push qq, s => .next (pushOp qq s)
  | .pop qq, s => .next (popOp qq s)
  | .jp a16, s => .next (jpOp a16 s)
  | .jpCond cc a16, s => .next (jpCondOp cc a16 s)
  | .jpHl, s => .next (jpHlOp s)
  | .jr e8, s => .next (jrOp e8 s)
  | .jrCond cc e8, s => .next (jrCondOp cc e8 s)
  | .call a16, s => .next (callOp a16 s)
  | .callCond cc a16, s => .next (callCondOp cc a16 s)
  | .ret, s => .next (retOp s)
  | .retCond cc, s => .next (retCondOp cc s)
  | .reti, s => .next (retiOp s)
  | .rst y, s => .next (rstOp y s)
  | .rlca, s => .next (rlcaOp s)
  | .rrca, s => .next (rrcaOp s)
  | .rla, s => .next (rlaOp s)
  | .rra, s => .next (rraOp s)
  | .rotReg op r, s => .next (rotRegOp op r s)
  | .rotMem op, s => .next (rotMemOp op s)
  | .bitReg b r, s => .next (bitRegOp b r s)
  | .bitMem b, s => .next (bitMemOp b s)
  | .resReg b r, s => .next (resRegOp b r s)
  | .resMem b, s => .next (resMemOp b s)
  | .setReg b r, s => .next (setRegOp b r s)
  | .setMem b, s => .next (setMemOp b s)
  | .nop, s => .next (nopOp s)
  | .halt, s => .next (haltOp s)
  | .stop b1, s => .next (stopOp b1 s)
  | .di, s => .next (diOp s)
  | .ei, s => .next (eiOp s)
  | .daa, s => .next (daaOp s)
  | .cpl, s => .next (cplOp s)
  | .scf, s => .next (scfOp s)
  | .ccf, s => .next (ccfOp s)
  | .illegal opcode, _ => .fault (.unknownOpcode opcode)

/-- `exec` is `Form.run` of the instruction's form. -/
theorem exec_eq_run (i : Instr) (s : State) : exec i s = Form.run i.form s := by
  cases i <;> rfl

/-- `exec` of a form's instruction. -/
theorem exec_toInstr (f : Form) (s : State) : exec f.toInstr s = Form.run f s := by
  rw [exec_eq_run, Form.form_toInstr]

end Machine

end Sys2Proof
end

