-- ==== Sys2Proof/Laws/Memory.lean ====
section
/-! SUPPORT. The laws of memory: a read after a write, the canonical form kept by every operation, and equal contents
of canonical memories as equal lists. -/

namespace Sys2Proof.Machine

theorem Memory.wfFrom_cons {lo k : Nat} {w : Byte} {rest : Memory} :
    Memory.wfFrom lo ((k, w) :: rest) = true ↔
      lo ≤ k ∧ k < 0x10000 ∧ w ≠ Config.unlistedByte ∧ Memory.wfFrom (k + 1) rest = true := by
  simp [Memory.wfFrom, and_assoc]

theorem Memory.wfFrom_mono {lo lo' : Nat} {m : Memory} (h : lo' ≤ lo) (hm : Memory.wfFrom lo m = true) :
    Memory.wfFrom lo' m = true := by
  cases m with
  | nil => rfl
  | cons p rest =>
    obtain ⟨k, w⟩ := p
    rw [Memory.wfFrom_cons] at hm ⊢
    exact ⟨by omega, hm.2⟩

/-- An address below the bound of a canonical memory is not listed. -/
theorem Memory.read_below {lo : Nat} {m : Memory} (hm : Memory.wfFrom lo m = true) {x : Nat} (hx : x < lo) :
    Memory.read m x = Config.unlistedByte := by
  induction m generalizing lo with
  | nil => rfl
  | cons p rest ih =>
    obtain ⟨k, w⟩ := p
    rw [Memory.wfFrom_cons] at hm
    rw [Memory.read, if_neg (by omega)]
    exact ih hm.2.2.2 (by omega)

theorem Memory.entry_wfFrom {lo a : Nat} {v : Byte} {rest : Memory} (hlo : lo ≤ a) (ha : a < 0x10000)
    (hr : Memory.wfFrom (a + 1) rest = true) : Memory.wfFrom lo (Memory.entry a v rest) = true := by
  unfold Memory.entry
  split
  · exact Memory.wfFrom_mono (by omega) hr
  · rename_i hv
    exact Memory.wfFrom_cons.2 ⟨hlo, ha, hv, hr⟩

theorem Memory.read_entry {a : Nat} {v : Byte} {rest : Memory} (hr : Memory.wfFrom (a + 1) rest = true) (x : Nat) :
    Memory.read (Memory.entry a v rest) x = if x = a then v else Memory.read rest x := by
  unfold Memory.entry
  split
  · rename_i hv
    split
    · rename_i hx
      rw [Memory.read_below hr (by omega), hv]
    · rfl
  · simp only [Memory.read, eq_comm]

theorem Memory.write_wfFrom {lo a : Nat} {v : Byte} {m : Memory} (hlo : lo ≤ a) (ha : a < 0x10000)
    (hm : Memory.wfFrom lo m = true) : Memory.wfFrom lo (Memory.write m a v) = true := by
  induction m generalizing lo with
  | nil => exact Memory.entry_wfFrom hlo ha rfl
  | cons p rest ih =>
    obtain ⟨k, w⟩ := p
    have h := Memory.wfFrom_cons.1 hm
    rw [Memory.write]
    split
    · exact Memory.entry_wfFrom hlo ha (Memory.wfFrom_cons.2 ⟨by omega, h.2⟩)
    · split
      · rename_i hk
        exact Memory.entry_wfFrom hlo ha (by rw [hk]; exact h.2.2.2)
      · exact Memory.wfFrom_cons.2 ⟨h.1, h.2.1, h.2.2.1, ih (by omega) h.2.2.2⟩

/-- A read after a write: the written byte at its address, every other byte as before (20_memory.md R61). -/
theorem Memory.read_write_from {lo a : Nat} {v : Byte} {m : Memory} (hm : Memory.wfFrom lo m = true) (x : Nat) :
    Memory.read (Memory.write m a v) x = if x = a then v else Memory.read m x := by
  induction m generalizing lo with
  | nil => exact Memory.read_entry rfl x
  | cons p rest ih =>
    obtain ⟨k, w⟩ := p
    have h := Memory.wfFrom_cons.1 hm
    rw [Memory.write]
    split
    · exact Memory.read_entry (Memory.wfFrom_cons.2 ⟨by omega, h.2⟩) x
    · split
      · rename_i hk
        subst hk
        rw [Memory.read_entry h.2.2.2]
        simp only [Memory.read]
        split
        · rfl
        · rw [if_neg (by omega)]
      · simp only [Memory.read, ih h.2.2.2]
        split
        · rw [if_neg (by omega)]
        · rfl

theorem Memory.read_write {m : Memory} (hm : m.wf = true) (a x : Nat) (v : Byte) :
    (m.write a v).read x = if x = a then v else m.read x :=
  Memory.read_write_from hm x

/-- A write keeps the canonical form. -/
theorem Memory.write_wf {m : Memory} (hm : m.wf = true) {a : Nat} (ha : a < 0x10000) (v : Byte) :
    (m.write a v).wf = true :=
  Memory.write_wfFrom (Nat.zero_le a) ha hm

theorem Memory.ofRange_wfFrom (f : Word → Byte) (count start : Nat) (h : start + count ≤ 0x10000) :
    Memory.wfFrom start (Memory.ofRange f count start) = true := by
  induction count generalizing start with
  | zero => rfl
  | succ n ih => exact Memory.entry_wfFrom (Nat.le_refl _) (by omega) (ih (start + 1) (by omega))

/-- A memory made from a function is canonical. -/
theorem Memory.ofFun_wf (f : Word → Byte) : (Memory.ofFun f).wf = true :=
  Memory.ofRange_wfFrom f 0x10000 0 (by omega)

theorem Memory.read_ofRange (f : Word → Byte) (count start : Nat) (h : start + count ≤ 0x10000) (x : Nat)
    (hlo : start ≤ x) (hhi : x < start + count) :
    Memory.read (Memory.ofRange f count start) x = f (BitVec.ofNat 16 x) := by
  induction count generalizing start with
  | zero => omega
  | succ n ih =>
    rw [Memory.ofRange, Memory.read_entry (Memory.ofRange_wfFrom f n (start + 1) (by omega))]
    split
    · rename_i hx
      rw [hx]
    · exact ih (start + 1) (by omega) (by omega) (by omega)

/-- A memory made from a function holds it (70_reset_and_hazards.md R336). -/
theorem Memory.read_ofFun (f : Word → Byte) (a : Word) : (Memory.ofFun f).read a.toNat = f a := by
  have h := Memory.read_ofRange f 0x10000 0 (by omega) a.toNat (by omega) (by have := a.isLt; omega)
  rw [Memory.ofFun, h, BitVec.ofNat_toNat, BitVec.setWidth_eq]

theorem Memory.ext_from {lo : Nat} {m m' : Memory} (hm : Memory.wfFrom lo m = true)
    (hm' : Memory.wfFrom lo m' = true) (h : ∀ x, Memory.read m x = Memory.read m' x) : m = m' := by
  induction m generalizing lo m' with
  | nil =>
    cases m' with
    | nil => rfl
    | cons p rest =>
      obtain ⟨k, w⟩ := p
      have h' := Memory.wfFrom_cons.1 hm'
      have := h k
      simp only [Memory.read, if_true] at this
      exact absurd this.symm h'.2.2.1
  | cons p rest ih =>
    obtain ⟨k, w⟩ := p
    have hk := Memory.wfFrom_cons.1 hm
    cases m' with
    | nil =>
      have := h k
      simp only [Memory.read, if_true] at this
      exact absurd this hk.2.2.1
    | cons p' rest' =>
      obtain ⟨k', w'⟩ := p'
      have hk' := Memory.wfFrom_cons.1 hm'
      have hkk : k = k' := by
        rcases Nat.lt_trichotomy k k' with hlt | heq | hgt
        · have := h k
          simp only [Memory.read, if_true, if_neg (show ¬ k' = k by omega)] at this
          rw [Memory.read_below hk'.2.2.2 (by omega)] at this
          exact absurd this hk.2.2.1
        · exact heq
        · have := h k'
          simp only [Memory.read, if_true, if_neg (show ¬ k = k' by omega)] at this
          rw [Memory.read_below hk.2.2.2 (by omega)] at this
          exact absurd this.symm hk'.2.2.1
      subst hkk
      have hw : w = w' := by
        have := h k
        simpa only [Memory.read, if_true] using this
      subst hw
      congr 1
      refine ih hk.2.2.2 hk'.2.2.2 fun x => ?_
      have hx := h x
      simp only [Memory.read] at hx
      split at hx
      · rename_i he
        rw [Memory.read_below hk.2.2.2 (by omega), Memory.read_below hk'.2.2.2 (by omega)]
      · exact hx

/-- Canonical memories with equal contents are equal lists. -/
theorem Memory.ext_wf {m m' : Memory} (hm : m.wf = true) (hm' : m'.wf = true)
    (h : ∀ x, Memory.read m x = Memory.read m' x) : m = m' :=
  Memory.ext_from hm hm' h

/-- MemRead after MemWrite (R61). -/
theorem State.readByte_writeByte {s : State} (hs : s.mem.wf = true) (a x : Word) (v : Byte) :
    (s.writeByte a v).readByte x = if x = a then v else s.readByte x := by
  unfold State.readByte State.writeByte
  simp only [Memory.read_write hs, ← BitVec.toNat_inj]

theorem State.writeByte_wf {s : State} (hs : s.mem.wf = true) (a : Word) (v : Byte) :
    (s.writeByte a v).mem.wf = true :=
  Memory.write_wf hs (by have := a.isLt; omega) v

/-- Write16 (R64): two bytes, the high one stored last. -/
theorem State.readByte_write16 {s : State} (hs : s.mem.wf = true) (a x v : Word) :
    (s.write16 a v).readByte x =
      if x = a + 1#16 then hiByte v else if x = a then loByte v else s.readByte x := by
  unfold State.write16
  rw [State.readByte_writeByte (State.writeByte_wf hs a _), State.readByte_writeByte hs]

end Sys2Proof.Machine
end

