-- ==== Sys2Proof/Laws/State.lean ====
section
/-! SUPPORT. What each named update of the state leaves and what it sets, one lemma per field and per reading, so that
no proof unfolds a record update. -/

namespace Sys2Proof

/-! ## Bytes and words -/

@[simp] theorem hiByte_wordOf (hi lo : Byte) : hiByte (wordOf hi lo) = hi := by
  unfold hiByte wordOf
  exact BitVec.extractLsb'_append_eq_left

@[simp] theorem loByte_wordOf (hi lo : Byte) : loByte (wordOf hi lo) = lo := by
  unfold loByte wordOf
  exact BitVec.extractLsb'_append_eq_right

theorem wordOf_toNat (hi lo : Byte) : (wordOf hi lo).toNat = 256 * hi.toNat + lo.toNat := by
  unfold wordOf
  rw [BitVec.toNat_append, ← Nat.shiftLeft_add_eq_or_of_lt lo.isLt, Nat.shiftLeft_eq]
  omega

theorem hiByte_toNat (v : Word) : (hiByte v).toNat = v.toNat / 256 := by
  unfold hiByte
  have := v.isLt
  simp [BitVec.extractLsb'_toNat, Nat.shiftRight_eq_div_pow]
  omega

theorem loByte_toNat (v : Word) : (loByte v).toNat = v.toNat % 256 := by
  unfold loByte
  simp [BitVec.extractLsb'_toNat]

@[simp] theorem wordOf_hiByte_loByte (v : Word) : wordOf (hiByte v) (loByte v) = v := by
  apply BitVec.eq_of_toNat_eq
  rw [wordOf_toNat, hiByte_toNat, loByte_toNat]
  omega

namespace Machine

/-! ## The flag register (10_state.md R25 to R27) -/

@[simp] theorem FlagSet.unpack_pack (fs : FlagSet) : FlagSet.unpack fs.pack = fs := by
  obtain ⟨z, n, h, c⟩ := fs
  cases z <;> cases n <;> cases h <;> cases c <;> rfl

@[simp] theorem maskF_pack (fs : FlagSet) : maskF fs.pack = fs.pack := by
  obtain ⟨z, n, h, c⟩ := fs
  cases z <;> cases n <;> cases h <;> cases c <;> rfl

@[simp] theorem maskF_maskF (v : Byte) : maskF (maskF v) = maskF v := by
  unfold maskF
  rw [BitVec.and_assoc, BitVec.and_self]

theorem maskF_low (v : Byte) : maskF v &&& 0x0F#8 = 0#8 := by
  unfold maskF
  rw [BitVec.and_assoc, show 0xF0#8 &&& 0x0F#8 = 0#8 from rfl, BitVec.and_zero]

theorem FlagSet.pack_low (fs : FlagSet) : fs.pack &&& 0x0F#8 = 0#8 := by
  rw [← maskF_pack, maskF_low]

@[simp] theorem FlagSet.unpack_maskF (v : Byte) : FlagSet.unpack (maskF v) = FlagSet.unpack v := by
  simp [FlagSet.unpack, maskF]

/-! ## tick -/
@[simp] theorem State.tick_cycles (s : State) (n : Nat) : (s.tick n).cycles = s.cycles + n := rfl
@[simp] theorem State.tick_a (s : State) (n : Nat) : (s.tick n).a = s.a := rfl
@[simp] theorem State.tick_b (s : State) (n : Nat) : (s.tick n).b = s.b := rfl
@[simp] theorem State.tick_c (s : State) (n : Nat) : (s.tick n).c = s.c := rfl
@[simp] theorem State.tick_d (s : State) (n : Nat) : (s.tick n).d = s.d := rfl
@[simp] theorem State.tick_e (s : State) (n : Nat) : (s.tick n).e = s.e := rfl
@[simp] theorem State.tick_h (s : State) (n : Nat) : (s.tick n).h = s.h := rfl
@[simp] theorem State.tick_l (s : State) (n : Nat) : (s.tick n).l = s.l := rfl
@[simp] theorem State.tick_f (s : State) (n : Nat) : (s.tick n).f = s.f := rfl
@[simp] theorem State.tick_sp (s : State) (n : Nat) : (s.tick n).sp = s.sp := rfl
@[simp] theorem State.tick_pc (s : State) (n : Nat) : (s.tick n).pc = s.pc := rfl
@[simp] theorem State.tick_ime (s : State) (n : Nat) : (s.tick n).ime = s.ime := rfl
@[simp] theorem State.tick_imePending (s : State) (n : Nat) : (s.tick n).imePending = s.imePending := rfl
@[simp] theorem State.tick_run (s : State) (n : Nat) : (s.tick n).run = s.run := rfl
@[simp] theorem State.tick_mem (s : State) (n : Nat) : (s.tick n).mem = s.mem := rfl
@[simp] theorem State.tick_params (s : State) (n : Nat) : (s.tick n).params = s.params := rfl
@[simp] theorem State.tick_readReg (s : State) (n : Nat) (r : Reg8) : (s.tick n).readReg r = s.readReg r := rfl
@[simp] theorem State.tick_readSingle (s : State) (n : Nat) (r : SingleRegister) : (s.tick n).readSingle r = s.readSingle r := rfl
@[simp] theorem State.tick_readDouble (s : State) (n : Nat) (rr : DoubleRegister) : (s.tick n).readDouble rr = s.readDouble rr := rfl
@[simp] theorem State.tick_readPair (s : State) (n : Nat) (rr : Pair) : (s.tick n).readPair rr = s.readPair rr := rfl
@[simp] theorem State.tick_readStackPair (s : State) (n : Nat) (rr : StackPair) : (s.tick n).readStackPair rr = s.readStackPair rr := rfl
@[simp] theorem State.tick_flags (s : State) (n : Nat) : (s.tick n).flags = s.flags := rfl
@[simp] theorem State.tick_readByte (s : State) (n : Nat) (x : Word) : (s.tick n).readByte x = s.readByte x := rfl
@[simp] theorem State.tick_hl (s : State) (n : Nat) : (s.tick n).hl = s.hl := rfl
@[simp] theorem State.tick_readAtHl (s : State) (n : Nat) : (s.tick n).readAtHl = s.readAtHl := rfl
/-! ## advance -/
@[simp] theorem State.advance_pc (s : State) (n : Nat) : (s.advance n).pc = s.pc + BitVec.ofNat 16 n := rfl
@[simp] theorem State.advance_a (s : State) (n : Nat) : (s.advance n).a = s.a := rfl
@[simp] theorem State.advance_b (s : State) (n : Nat) : (s.advance n).b = s.b := rfl
@[simp] theorem State.advance_c (s : State) (n : Nat) : (s.advance n).c = s.c := rfl
@[simp] theorem State.advance_d (s : State) (n : Nat) : (s.advance n).d = s.d := rfl
@[simp] theorem State.advance_e (s : State) (n : Nat) : (s.advance n).e = s.e := rfl
@[simp] theorem State.advance_h (s : State) (n : Nat) : (s.advance n).h = s.h := rfl
@[simp] theorem State.advance_l (s : State) (n : Nat) : (s.advance n).l = s.l := rfl
@[simp] theorem State.advance_f (s : State) (n : Nat) : (s.advance n).f = s.f := rfl
@[simp] theorem State.advance_sp (s : State) (n : Nat) : (s.advance n).sp = s.sp := rfl
@[simp] theorem State.advance_ime (s : State) (n : Nat) : (s.advance n).ime = s.ime := rfl
@[simp] theorem State.advance_imePending (s : State) (n : Nat) : (s.advance n).imePending = s.imePending := rfl
@[simp] theorem State.advance_run (s : State) (n : Nat) : (s.advance n).run = s.run := rfl
@[simp] theorem State.advance_cycles (s : State) (n : Nat) : (s.advance n).cycles = s.cycles := rfl
@[simp] theorem State.advance_mem (s : State) (n : Nat) : (s.advance n).mem = s.mem := rfl
@[simp] theorem State.advance_params (s : State) (n : Nat) : (s.advance n).params = s.params := rfl
@[simp] theorem State.advance_readReg (s : State) (n : Nat) (r : Reg8) : (s.advance n).readReg r = s.readReg r := by cases r <;> rfl
@[simp] theorem State.advance_readSingle (s : State) (n : Nat) (r : SingleRegister) : (s.advance n).readSingle r = s.readSingle r := rfl
@[simp] theorem State.advance_readPair (s : State) (n : Nat) (rr : Pair) : (s.advance n).readPair rr = s.readPair rr := by cases rr <;> rfl
@[simp] theorem State.advance_readStackPair (s : State) (n : Nat) (rr : StackPair) : (s.advance n).readStackPair rr = s.readStackPair rr := by cases rr <;> rfl
@[simp] theorem State.advance_flags (s : State) (n : Nat) : (s.advance n).flags = s.flags := rfl
@[simp] theorem State.advance_readByte (s : State) (n : Nat) (x : Word) : (s.advance n).readByte x = s.readByte x := rfl
@[simp] theorem State.advance_hl (s : State) (n : Nat) : (s.advance n).hl = s.hl := rfl
@[simp] theorem State.advance_readAtHl (s : State) (n : Nat) : (s.advance n).readAtHl = s.readAtHl := rfl
/-! ## setPc -/
@[simp] theorem State.setPc_pc (s : State) (v : Word) : (s.setPc v).pc = v := rfl
@[simp] theorem State.setPc_a (s : State) (v : Word) : (s.setPc v).a = s.a := rfl
@[simp] theorem State.setPc_b (s : State) (v : Word) : (s.setPc v).b = s.b := rfl
@[simp] theorem State.setPc_c (s : State) (v : Word) : (s.setPc v).c = s.c := rfl
@[simp] theorem State.setPc_d (s : State) (v : Word) : (s.setPc v).d = s.d := rfl
@[simp] theorem State.setPc_e (s : State) (v : Word) : (s.setPc v).e = s.e := rfl
@[simp] theorem State.setPc_h (s : State) (v : Word) : (s.setPc v).h = s.h := rfl
@[simp] theorem State.setPc_l (s : State) (v : Word) : (s.setPc v).l = s.l := rfl
@[simp] theorem State.setPc_f (s : State) (v : Word) : (s.setPc v).f = s.f := rfl
@[simp] theorem State.setPc_sp (s : State) (v : Word) : (s.setPc v).sp = s.sp := rfl
@[simp] theorem State.setPc_ime (s : State) (v : Word) : (s.setPc v).ime = s.ime := rfl
@[simp] theorem State.setPc_imePending (s : State) (v : Word) : (s.setPc v).imePending = s.imePending := rfl
@[simp] theorem State.setPc_run (s : State) (v : Word) : (s.setPc v).run = s.run := rfl
@[simp] theorem State.setPc_cycles (s : State) (v : Word) : (s.setPc v).cycles = s.cycles := rfl
@[simp] theorem State.setPc_mem (s : State) (v : Word) : (s.setPc v).mem = s.mem := rfl
@[simp] theorem State.setPc_params (s : State) (v : Word) : (s.setPc v).params = s.params := rfl
@[simp] theorem State.setPc_readReg (s : State) (v : Word) (r : Reg8) : (s.setPc v).readReg r = s.readReg r := by cases r <;> rfl
@[simp] theorem State.setPc_readSingle (s : State) (v : Word) (r : SingleRegister) : (s.setPc v).readSingle r = s.readSingle r := rfl
@[simp] theorem State.setPc_readPair (s : State) (v : Word) (rr : Pair) : (s.setPc v).readPair rr = s.readPair rr := by cases rr <;> rfl
@[simp] theorem State.setPc_readStackPair (s : State) (v : Word) (rr : StackPair) : (s.setPc v).readStackPair rr = s.readStackPair rr := by cases rr <;> rfl
@[simp] theorem State.setPc_flags (s : State) (v : Word) : (s.setPc v).flags = s.flags := rfl
@[simp] theorem State.setPc_readByte (s : State) (v : Word) (x : Word) : (s.setPc v).readByte x = s.readByte x := rfl
@[simp] theorem State.setPc_hl (s : State) (v : Word) : (s.setPc v).hl = s.hl := rfl
@[simp] theorem State.setPc_readAtHl (s : State) (v : Word) : (s.setPc v).readAtHl = s.readAtHl := rfl
/-! ## setIme -/
@[simp] theorem State.setIme_ime (s : State) (v : Bool) : (s.setIme v).ime = v := rfl
@[simp] theorem State.setIme_a (s : State) (v : Bool) : (s.setIme v).a = s.a := rfl
@[simp] theorem State.setIme_b (s : State) (v : Bool) : (s.setIme v).b = s.b := rfl
@[simp] theorem State.setIme_c (s : State) (v : Bool) : (s.setIme v).c = s.c := rfl
@[simp] theorem State.setIme_d (s : State) (v : Bool) : (s.setIme v).d = s.d := rfl
@[simp] theorem State.setIme_e (s : State) (v : Bool) : (s.setIme v).e = s.e := rfl
@[simp] theorem State.setIme_h (s : State) (v : Bool) : (s.setIme v).h = s.h := rfl
@[simp] theorem State.setIme_l (s : State) (v : Bool) : (s.setIme v).l = s.l := rfl
@[simp] theorem State.setIme_f (s : State) (v : Bool) : (s.setIme v).f = s.f := rfl
@[simp] theorem State.setIme_sp (s : State) (v : Bool) : (s.setIme v).sp = s.sp := rfl
@[simp] theorem State.setIme_pc (s : State) (v : Bool) : (s.setIme v).pc = s.pc := rfl
@[simp] theorem State.setIme_imePending (s : State) (v : Bool) : (s.setIme v).imePending = s.imePending := rfl
@[simp] theorem State.setIme_run (s : State) (v : Bool) : (s.setIme v).run = s.run := rfl
@[simp] theorem State.setIme_cycles (s : State) (v : Bool) : (s.setIme v).cycles = s.cycles := rfl
@[simp] theorem State.setIme_mem (s : State) (v : Bool) : (s.setIme v).mem = s.mem := rfl
@[simp] theorem State.setIme_params (s : State) (v : Bool) : (s.setIme v).params = s.params := rfl
@[simp] theorem State.setIme_readReg (s : State) (v : Bool) (r : Reg8) : (s.setIme v).readReg r = s.readReg r := rfl
@[simp] theorem State.setIme_readSingle (s : State) (v : Bool) (r : SingleRegister) : (s.setIme v).readSingle r = s.readSingle r := rfl
@[simp] theorem State.setIme_readDouble (s : State) (v : Bool) (rr : DoubleRegister) : (s.setIme v).readDouble rr = s.readDouble rr := rfl
@[simp] theorem State.setIme_readPair (s : State) (v : Bool) (rr : Pair) : (s.setIme v).readPair rr = s.readPair rr := rfl
@[simp] theorem State.setIme_readStackPair (s : State) (v : Bool) (rr : StackPair) : (s.setIme v).readStackPair rr = s.readStackPair rr := rfl
@[simp] theorem State.setIme_flags (s : State) (v : Bool) : (s.setIme v).flags = s.flags := rfl
@[simp] theorem State.setIme_readByte (s : State) (v : Bool) (x : Word) : (s.setIme v).readByte x = s.readByte x := rfl
@[simp] theorem State.setIme_hl (s : State) (v : Bool) : (s.setIme v).hl = s.hl := rfl
@[simp] theorem State.setIme_readAtHl (s : State) (v : Bool) : (s.setIme v).readAtHl = s.readAtHl := rfl
/-! ## setRun -/
@[simp] theorem State.setRun_run (s : State) (v : RunState) : (s.setRun v).run = v := rfl
@[simp] theorem State.setRun_a (s : State) (v : RunState) : (s.setRun v).a = s.a := rfl
@[simp] theorem State.setRun_b (s : State) (v : RunState) : (s.setRun v).b = s.b := rfl
@[simp] theorem State.setRun_c (s : State) (v : RunState) : (s.setRun v).c = s.c := rfl
@[simp] theorem State.setRun_d (s : State) (v : RunState) : (s.setRun v).d = s.d := rfl
@[simp] theorem State.setRun_e (s : State) (v : RunState) : (s.setRun v).e = s.e := rfl
@[simp] theorem State.setRun_h (s : State) (v : RunState) : (s.setRun v).h = s.h := rfl
@[simp] theorem State.setRun_l (s : State) (v : RunState) : (s.setRun v).l = s.l := rfl
@[simp] theorem State.setRun_f (s : State) (v : RunState) : (s.setRun v).f = s.f := rfl
@[simp] theorem State.setRun_sp (s : State) (v : RunState) : (s.setRun v).sp = s.sp := rfl
@[simp] theorem State.setRun_pc (s : State) (v : RunState) : (s.setRun v).pc = s.pc := rfl
@[simp] theorem State.setRun_ime (s : State) (v : RunState) : (s.setRun v).ime = s.ime := rfl
@[simp] theorem State.setRun_imePending (s : State) (v : RunState) : (s.setRun v).imePending = s.imePending := rfl
@[simp] theorem State.setRun_cycles (s : State) (v : RunState) : (s.setRun v).cycles = s.cycles := rfl
@[simp] theorem State.setRun_mem (s : State) (v : RunState) : (s.setRun v).mem = s.mem := rfl
@[simp] theorem State.setRun_params (s : State) (v : RunState) : (s.setRun v).params = s.params := rfl
@[simp] theorem State.setRun_readReg (s : State) (v : RunState) (r : Reg8) : (s.setRun v).readReg r = s.readReg r := rfl
@[simp] theorem State.setRun_readSingle (s : State) (v : RunState) (r : SingleRegister) : (s.setRun v).readSingle r = s.readSingle r := rfl
@[simp] theorem State.setRun_readDouble (s : State) (v : RunState) (rr : DoubleRegister) : (s.setRun v).readDouble rr = s.readDouble rr := rfl
@[simp] theorem State.setRun_readPair (s : State) (v : RunState) (rr : Pair) : (s.setRun v).readPair rr = s.readPair rr := rfl
@[simp] theorem State.setRun_readStackPair (s : State) (v : RunState) (rr : StackPair) : (s.setRun v).readStackPair rr = s.readStackPair rr := rfl
@[simp] theorem State.setRun_flags (s : State) (v : RunState) : (s.setRun v).flags = s.flags := rfl
@[simp] theorem State.setRun_readByte (s : State) (v : RunState) (x : Word) : (s.setRun v).readByte x = s.readByte x := rfl
@[simp] theorem State.setRun_hl (s : State) (v : RunState) : (s.setRun v).hl = s.hl := rfl
@[simp] theorem State.setRun_readAtHl (s : State) (v : RunState) : (s.setRun v).readAtHl = s.readAtHl := rfl
/-! ## setPending -/
@[simp] theorem State.setPending_a (s : State) (v : Bool) : (s.setPending v).a = s.a := by unfold State.setPending; split <;> rfl
@[simp] theorem State.setPending_b (s : State) (v : Bool) : (s.setPending v).b = s.b := by unfold State.setPending; split <;> rfl
@[simp] theorem State.setPending_c (s : State) (v : Bool) : (s.setPending v).c = s.c := by unfold State.setPending; split <;> rfl
@[simp] theorem State.setPending_d (s : State) (v : Bool) : (s.setPending v).d = s.d := by unfold State.setPending; split <;> rfl
@[simp] theorem State.setPending_e (s : State) (v : Bool) : (s.setPending v).e = s.e := by unfold State.setPending; split <;> rfl
@[simp] theorem State.setPending_h (s : State) (v : Bool) : (s.setPending v).h = s.h := by unfold State.setPending; split <;> rfl
@[simp] theorem State.setPending_l (s : State) (v : Bool) : (s.setPending v).l = s.l := by unfold State.setPending; split <;> rfl
@[simp] theorem State.setPending_f (s : State) (v : Bool) : (s.setPending v).f = s.f := by unfold State.setPending; split <;> rfl
@[simp] theorem State.setPending_sp (s : State) (v : Bool) : (s.setPending v).sp = s.sp := by unfold State.setPending; split <;> rfl
@[simp] theorem State.setPending_pc (s : State) (v : Bool) : (s.setPending v).pc = s.pc := by unfold State.setPending; split <;> rfl
@[simp] theorem State.setPending_ime (s : State) (v : Bool) : (s.setPending v).ime = s.ime := by unfold State.setPending; split <;> rfl
@[simp] theorem State.setPending_run (s : State) (v : Bool) : (s.setPending v).run = s.run := by unfold State.setPending; split <;> rfl
@[simp] theorem State.setPending_cycles (s : State) (v : Bool) : (s.setPending v).cycles = s.cycles := by unfold State.setPending; split <;> rfl
@[simp] theorem State.setPending_mem (s : State) (v : Bool) : (s.setPending v).mem = s.mem := by unfold State.setPending; split <;> rfl
@[simp] theorem State.setPending_params (s : State) (v : Bool) : (s.setPending v).params = s.params := by unfold State.setPending; split <;> rfl
@[simp] theorem State.setPending_readReg (s : State) (v : Bool) (r : Reg8) : (s.setPending v).readReg r = s.readReg r := by unfold State.setPending; split <;> rfl
@[simp] theorem State.setPending_readSingle (s : State) (v : Bool) (r : SingleRegister) : (s.setPending v).readSingle r = s.readSingle r := by unfold State.setPending; split <;> rfl
@[simp] theorem State.setPending_readDouble (s : State) (v : Bool) (rr : DoubleRegister) : (s.setPending v).readDouble rr = s.readDouble rr := by unfold State.setPending; split <;> rfl
@[simp] theorem State.setPending_readPair (s : State) (v : Bool) (rr : Pair) : (s.setPending v).readPair rr = s.readPair rr := by unfold State.setPending; split <;> rfl
@[simp] theorem State.setPending_readStackPair (s : State) (v : Bool) (rr : StackPair) : (s.setPending v).readStackPair rr = s.readStackPair rr := by unfold State.setPending; split <;> rfl
@[simp] theorem State.setPending_flags (s : State) (v : Bool) : (s.setPending v).flags = s.flags := by unfold State.setPending; split <;> rfl
@[simp] theorem State.setPending_readByte (s : State) (v : Bool) (x : Word) : (s.setPending v).readByte x = s.readByte x := by unfold State.setPending; split <;> rfl
@[simp] theorem State.setPending_hl (s : State) (v : Bool) : (s.setPending v).hl = s.hl := by unfold State.setPending; split <;> rfl
@[simp] theorem State.setPending_readAtHl (s : State) (v : Bool) : (s.setPending v).readAtHl = s.readAtHl := by unfold State.setPending; split <;> rfl
/-! ## setFlags -/
@[simp] theorem State.setFlags_f (s : State) (fs : FlagSet) : (s.setFlags fs).f = fs.pack := rfl
@[simp] theorem State.setFlags_a (s : State) (fs : FlagSet) : (s.setFlags fs).a = s.a := rfl
@[simp] theorem State.setFlags_b (s : State) (fs : FlagSet) : (s.setFlags fs).b = s.b := rfl
@[simp] theorem State.setFlags_c (s : State) (fs : FlagSet) : (s.setFlags fs).c = s.c := rfl
@[simp] theorem State.setFlags_d (s : State) (fs : FlagSet) : (s.setFlags fs).d = s.d := rfl
@[simp] theorem State.setFlags_e (s : State) (fs : FlagSet) : (s.setFlags fs).e = s.e := rfl
@[simp] theorem State.setFlags_h (s : State) (fs : FlagSet) : (s.setFlags fs).h = s.h := rfl
@[simp] theorem State.setFlags_l (s : State) (fs : FlagSet) : (s.setFlags fs).l = s.l := rfl
@[simp] theorem State.setFlags_sp (s : State) (fs : FlagSet) : (s.setFlags fs).sp = s.sp := rfl
@[simp] theorem State.setFlags_pc (s : State) (fs : FlagSet) : (s.setFlags fs).pc = s.pc := rfl
@[simp] theorem State.setFlags_ime (s : State) (fs : FlagSet) : (s.setFlags fs).ime = s.ime := rfl
@[simp] theorem State.setFlags_imePending (s : State) (fs : FlagSet) : (s.setFlags fs).imePending = s.imePending := rfl
@[simp] theorem State.setFlags_run (s : State) (fs : FlagSet) : (s.setFlags fs).run = s.run := rfl
@[simp] theorem State.setFlags_cycles (s : State) (fs : FlagSet) : (s.setFlags fs).cycles = s.cycles := rfl
@[simp] theorem State.setFlags_mem (s : State) (fs : FlagSet) : (s.setFlags fs).mem = s.mem := rfl
@[simp] theorem State.setFlags_params (s : State) (fs : FlagSet) : (s.setFlags fs).params = s.params := rfl
@[simp] theorem State.setFlags_readReg (s : State) (fs : FlagSet) (r : Reg8) : (s.setFlags fs).readReg r = s.readReg r := by cases r <;> rfl
@[simp] theorem State.setFlags_readPair (s : State) (fs : FlagSet) (rr : Pair) : (s.setFlags fs).readPair rr = s.readPair rr := by cases rr <;> rfl
@[simp] theorem State.setFlags_readByte (s : State) (fs : FlagSet) (x : Word) : (s.setFlags fs).readByte x = s.readByte x := rfl
@[simp] theorem State.setFlags_hl (s : State) (fs : FlagSet) : (s.setFlags fs).hl = s.hl := rfl
@[simp] theorem State.setFlags_readAtHl (s : State) (fs : FlagSet) : (s.setFlags fs).readAtHl = s.readAtHl := rfl
/-! ## writeByte -/
@[simp] theorem State.writeByte_mem (s : State) (w : Word) (v : Byte) : (s.writeByte w v).mem = s.mem.write w.toNat v := rfl
@[simp] theorem State.writeByte_a (s : State) (w : Word) (v : Byte) : (s.writeByte w v).a = s.a := rfl
@[simp] theorem State.writeByte_b (s : State) (w : Word) (v : Byte) : (s.writeByte w v).b = s.b := rfl
@[simp] theorem State.writeByte_c (s : State) (w : Word) (v : Byte) : (s.writeByte w v).c = s.c := rfl
@[simp] theorem State.writeByte_d (s : State) (w : Word) (v : Byte) : (s.writeByte w v).d = s.d := rfl
@[simp] theorem State.writeByte_e (s : State) (w : Word) (v : Byte) : (s.writeByte w v).e = s.e := rfl
@[simp] theorem State.writeByte_h (s : State) (w : Word) (v : Byte) : (s.writeByte w v).h = s.h := rfl
@[simp] theorem State.writeByte_l (s : State) (w : Word) (v : Byte) : (s.writeByte w v).l = s.l := rfl
@[simp] theorem State.writeByte_f (s : State) (w : Word) (v : Byte) : (s.writeByte w v).f = s.f := rfl
@[simp] theorem State.writeByte_sp (s : State) (w : Word) (v : Byte) : (s.writeByte w v).sp = s.sp := rfl
@[simp] theorem State.writeByte_pc (s : State) (w : Word) (v : Byte) : (s.writeByte w v).pc = s.pc := rfl
@[simp] theorem State.writeByte_ime (s : State) (w : Word) (v : Byte) : (s.writeByte w v).ime = s.ime := rfl
@[simp] theorem State.writeByte_imePending (s : State) (w : Word) (v : Byte) : (s.writeByte w v).imePending = s.imePending := rfl
@[simp] theorem State.writeByte_run (s : State) (w : Word) (v : Byte) : (s.writeByte w v).run = s.run := rfl
@[simp] theorem State.writeByte_cycles (s : State) (w : Word) (v : Byte) : (s.writeByte w v).cycles = s.cycles := rfl
@[simp] theorem State.writeByte_params (s : State) (w : Word) (v : Byte) : (s.writeByte w v).params = s.params := rfl
@[simp] theorem State.writeByte_readReg (s : State) (w : Word) (v : Byte) (r : Reg8) : (s.writeByte w v).readReg r = s.readReg r := rfl
@[simp] theorem State.writeByte_readSingle (s : State) (w : Word) (v : Byte) (r : SingleRegister) : (s.writeByte w v).readSingle r = s.readSingle r := rfl
@[simp] theorem State.writeByte_readDouble (s : State) (w : Word) (v : Byte) (rr : DoubleRegister) : (s.writeByte w v).readDouble rr = s.readDouble rr := rfl
@[simp] theorem State.writeByte_readPair (s : State) (w : Word) (v : Byte) (rr : Pair) : (s.writeByte w v).readPair rr = s.readPair rr := rfl
@[simp] theorem State.writeByte_readStackPair (s : State) (w : Word) (v : Byte) (rr : StackPair) : (s.writeByte w v).readStackPair rr = s.readStackPair rr := rfl
@[simp] theorem State.writeByte_flags (s : State) (w : Word) (v : Byte) : (s.writeByte w v).flags = s.flags := rfl
@[simp] theorem State.writeByte_hl (s : State) (w : Word) (v : Byte) : (s.writeByte w v).hl = s.hl := rfl
/-! ## writeReg -/
@[simp] theorem State.writeReg_f (s : State) (q : Reg8) (v : Byte) : (s.writeReg q v).f = s.f := by cases q <;> rfl
@[simp] theorem State.writeReg_sp (s : State) (q : Reg8) (v : Byte) : (s.writeReg q v).sp = s.sp := by cases q <;> rfl
@[simp] theorem State.writeReg_pc (s : State) (q : Reg8) (v : Byte) : (s.writeReg q v).pc = s.pc := by cases q <;> rfl
@[simp] theorem State.writeReg_ime (s : State) (q : Reg8) (v : Byte) : (s.writeReg q v).ime = s.ime := by cases q <;> rfl
@[simp] theorem State.writeReg_imePending (s : State) (q : Reg8) (v : Byte) : (s.writeReg q v).imePending = s.imePending := by cases q <;> rfl
@[simp] theorem State.writeReg_run (s : State) (q : Reg8) (v : Byte) : (s.writeReg q v).run = s.run := by cases q <;> rfl
@[simp] theorem State.writeReg_cycles (s : State) (q : Reg8) (v : Byte) : (s.writeReg q v).cycles = s.cycles := by cases q <;> rfl
@[simp] theorem State.writeReg_mem (s : State) (q : Reg8) (v : Byte) : (s.writeReg q v).mem = s.mem := by cases q <;> rfl
@[simp] theorem State.writeReg_params (s : State) (q : Reg8) (v : Byte) : (s.writeReg q v).params = s.params := by cases q <;> rfl
@[simp] theorem State.writeReg_flags (s : State) (q : Reg8) (v : Byte) : (s.writeReg q v).flags = s.flags := by cases q <;> rfl
@[simp] theorem State.writeReg_readByte (s : State) (q : Reg8) (v : Byte) (x : Word) : (s.writeReg q v).readByte x = s.readByte x := by cases q <;> rfl
/-! ## setHl -/
@[simp] theorem State.setHl_h (s : State) (v : Word) : (s.setHl v).h = hiByte v := rfl
@[simp] theorem State.setHl_l (s : State) (v : Word) : (s.setHl v).l = loByte v := rfl
@[simp] theorem State.setHl_a (s : State) (v : Word) : (s.setHl v).a = s.a := rfl
@[simp] theorem State.setHl_b (s : State) (v : Word) : (s.setHl v).b = s.b := rfl
@[simp] theorem State.setHl_c (s : State) (v : Word) : (s.setHl v).c = s.c := rfl
@[simp] theorem State.setHl_d (s : State) (v : Word) : (s.setHl v).d = s.d := rfl
@[simp] theorem State.setHl_e (s : State) (v : Word) : (s.setHl v).e = s.e := rfl
@[simp] theorem State.setHl_f (s : State) (v : Word) : (s.setHl v).f = s.f := rfl
@[simp] theorem State.setHl_sp (s : State) (v : Word) : (s.setHl v).sp = s.sp := rfl
@[simp] theorem State.setHl_pc (s : State) (v : Word) : (s.setHl v).pc = s.pc := rfl
@[simp] theorem State.setHl_ime (s : State) (v : Word) : (s.setHl v).ime = s.ime := rfl
@[simp] theorem State.setHl_imePending (s : State) (v : Word) : (s.setHl v).imePending = s.imePending := rfl
@[simp] theorem State.setHl_run (s : State) (v : Word) : (s.setHl v).run = s.run := rfl
@[simp] theorem State.setHl_cycles (s : State) (v : Word) : (s.setHl v).cycles = s.cycles := rfl
@[simp] theorem State.setHl_mem (s : State) (v : Word) : (s.setHl v).mem = s.mem := rfl
@[simp] theorem State.setHl_params (s : State) (v : Word) : (s.setHl v).params = s.params := rfl
@[simp] theorem State.setHl_flags (s : State) (v : Word) : (s.setHl v).flags = s.flags := rfl
@[simp] theorem State.setHl_readByte (s : State) (v : Word) (x : Word) : (s.setHl v).readByte x = s.readByte x := rfl

@[simp] theorem State.setFlags_flags (s : State) (fs : FlagSet) : (s.setFlags fs).flags = fs :=
  FlagSet.unpack_pack fs

@[simp] theorem State.writeReg_readReg (s : State) (q r : Reg8) (v : Byte) :
    (s.writeReg q v).readReg r = if r = q then v else s.readReg r := by
  cases q <;> cases r <;> rfl

@[simp] theorem State.setHl_hl (s : State) (v : Word) : (s.setHl v).hl = v :=
  wordOf_hiByte_loByte v

@[simp] theorem State.setHl_readReg (s : State) (v : Word) (r : Reg8) :
    (s.setHl v).readReg r = if r = .h then hiByte v else if r = .l then loByte v else s.readReg r := by
  cases r <;> rfl

@[simp] theorem State.tick_pending (s : State) (n : Nat) : (s.tick n).pending = s.pending := rfl

@[simp] theorem State.tick_cond (s : State) (n : Nat) (cc : Cond) : (s.tick n).cond cc = s.cond cc := by
  cases cc <;> rfl

@[simp] theorem State.advance_cond (s : State) (n : Nat) (cc : Cond) : (s.advance n).cond cc = s.cond cc := by
  cases cc <;> rfl

/-! ## writeDouble .sp -/
@[simp] theorem State.writeSp_sp (s : State) (v : Word) : (s.writeDouble .sp v).sp = v := rfl
@[simp] theorem State.writeSp_a (s : State) (v : Word) : (s.writeDouble .sp v).a = s.a := rfl
@[simp] theorem State.writeSp_b (s : State) (v : Word) : (s.writeDouble .sp v).b = s.b := rfl
@[simp] theorem State.writeSp_c (s : State) (v : Word) : (s.writeDouble .sp v).c = s.c := rfl
@[simp] theorem State.writeSp_d (s : State) (v : Word) : (s.writeDouble .sp v).d = s.d := rfl
@[simp] theorem State.writeSp_e (s : State) (v : Word) : (s.writeDouble .sp v).e = s.e := rfl
@[simp] theorem State.writeSp_h (s : State) (v : Word) : (s.writeDouble .sp v).h = s.h := rfl
@[simp] theorem State.writeSp_l (s : State) (v : Word) : (s.writeDouble .sp v).l = s.l := rfl
@[simp] theorem State.writeSp_f (s : State) (v : Word) : (s.writeDouble .sp v).f = s.f := rfl
@[simp] theorem State.writeSp_pc (s : State) (v : Word) : (s.writeDouble .sp v).pc = s.pc := rfl
@[simp] theorem State.writeSp_ime (s : State) (v : Word) : (s.writeDouble .sp v).ime = s.ime := rfl
@[simp] theorem State.writeSp_imePending (s : State) (v : Word) : (s.writeDouble .sp v).imePending = s.imePending := rfl
@[simp] theorem State.writeSp_run (s : State) (v : Word) : (s.writeDouble .sp v).run = s.run := rfl
@[simp] theorem State.writeSp_cycles (s : State) (v : Word) : (s.writeDouble .sp v).cycles = s.cycles := rfl
@[simp] theorem State.writeSp_mem (s : State) (v : Word) : (s.writeDouble .sp v).mem = s.mem := rfl
@[simp] theorem State.writeSp_params (s : State) (v : Word) : (s.writeDouble .sp v).params = s.params := rfl
@[simp] theorem State.writeSp_readReg (s : State) (v : Word) (r : Reg8) : (s.writeDouble .sp v).readReg r = s.readReg r := rfl
@[simp] theorem State.writeSp_readSingle (s : State) (v : Word) (r : SingleRegister) : (s.writeDouble .sp v).readSingle r = s.readSingle r := rfl
@[simp] theorem State.writeSp_readStackPair (s : State) (v : Word) (rr : StackPair) : (s.writeDouble .sp v).readStackPair rr = s.readStackPair rr := by cases rr <;> rfl
@[simp] theorem State.writeSp_flags (s : State) (v : Word) : (s.writeDouble .sp v).flags = s.flags := rfl
@[simp] theorem State.writeSp_readByte (s : State) (v : Word) (x : Word) : (s.writeDouble .sp v).readByte x = s.readByte x := rfl
@[simp] theorem State.writeSp_hl (s : State) (v : Word) : (s.writeDouble .sp v).hl = s.hl := rfl
@[simp] theorem State.writeSp_readAtHl (s : State) (v : Word) : (s.writeDouble .sp v).readAtHl = s.readAtHl := rfl

/-! ## write16 -/
@[simp] theorem State.write16_a (s : State) (w v : Word) : (s.write16 w v).a = s.a := rfl
@[simp] theorem State.write16_b (s : State) (w v : Word) : (s.write16 w v).b = s.b := rfl
@[simp] theorem State.write16_c (s : State) (w v : Word) : (s.write16 w v).c = s.c := rfl
@[simp] theorem State.write16_d (s : State) (w v : Word) : (s.write16 w v).d = s.d := rfl
@[simp] theorem State.write16_e (s : State) (w v : Word) : (s.write16 w v).e = s.e := rfl
@[simp] theorem State.write16_h (s : State) (w v : Word) : (s.write16 w v).h = s.h := rfl
@[simp] theorem State.write16_l (s : State) (w v : Word) : (s.write16 w v).l = s.l := rfl
@[simp] theorem State.write16_f (s : State) (w v : Word) : (s.write16 w v).f = s.f := rfl
@[simp] theorem State.write16_sp (s : State) (w v : Word) : (s.write16 w v).sp = s.sp := rfl
@[simp] theorem State.write16_pc (s : State) (w v : Word) : (s.write16 w v).pc = s.pc := rfl
@[simp] theorem State.write16_ime (s : State) (w v : Word) : (s.write16 w v).ime = s.ime := rfl
@[simp] theorem State.write16_imePending (s : State) (w v : Word) : (s.write16 w v).imePending = s.imePending := rfl
@[simp] theorem State.write16_run (s : State) (w v : Word) : (s.write16 w v).run = s.run := rfl
@[simp] theorem State.write16_cycles (s : State) (w v : Word) : (s.write16 w v).cycles = s.cycles := rfl
@[simp] theorem State.write16_params (s : State) (w v : Word) : (s.write16 w v).params = s.params := rfl
@[simp] theorem State.write16_readReg (s : State) (w v : Word) (r : Reg8) : (s.write16 w v).readReg r = s.readReg r := rfl
@[simp] theorem State.write16_readSingle (s : State) (w v : Word) (r : SingleRegister) : (s.write16 w v).readSingle r = s.readSingle r := rfl
@[simp] theorem State.write16_readDouble (s : State) (w v : Word) (rr : DoubleRegister) : (s.write16 w v).readDouble rr = s.readDouble rr := rfl
@[simp] theorem State.write16_readPair (s : State) (w v : Word) (rr : Pair) : (s.write16 w v).readPair rr = s.readPair rr := rfl
@[simp] theorem State.write16_readStackPair (s : State) (w v : Word) (rr : StackPair) : (s.write16 w v).readStackPair rr = s.readStackPair rr := rfl
@[simp] theorem State.write16_flags (s : State) (w v : Word) : (s.write16 w v).flags = s.flags := rfl
@[simp] theorem State.write16_hl (s : State) (w v : Word) : (s.write16 w v).hl = s.hl := rfl

/-! ## writePair -/
@[simp] theorem State.writePair_a (s : State) (rr : Pair) (v : Word) : (s.writePair rr v).a = s.a := by cases rr <;> rfl
@[simp] theorem State.writePair_f (s : State) (rr : Pair) (v : Word) : (s.writePair rr v).f = s.f := by cases rr <;> rfl
@[simp] theorem State.writePair_pc (s : State) (rr : Pair) (v : Word) : (s.writePair rr v).pc = s.pc := by cases rr <;> rfl
@[simp] theorem State.writePair_ime (s : State) (rr : Pair) (v : Word) : (s.writePair rr v).ime = s.ime := by cases rr <;> rfl
@[simp] theorem State.writePair_imePending (s : State) (rr : Pair) (v : Word) : (s.writePair rr v).imePending = s.imePending := by cases rr <;> rfl
@[simp] theorem State.writePair_run (s : State) (rr : Pair) (v : Word) : (s.writePair rr v).run = s.run := by cases rr <;> rfl
@[simp] theorem State.writePair_cycles (s : State) (rr : Pair) (v : Word) : (s.writePair rr v).cycles = s.cycles := by cases rr <;> rfl
@[simp] theorem State.writePair_mem (s : State) (rr : Pair) (v : Word) : (s.writePair rr v).mem = s.mem := by cases rr <;> rfl
@[simp] theorem State.writePair_params (s : State) (rr : Pair) (v : Word) : (s.writePair rr v).params = s.params := by cases rr <;> rfl
@[simp] theorem State.writePair_flags (s : State) (rr : Pair) (v : Word) : (s.writePair rr v).flags = s.flags := by cases rr <;> rfl
@[simp] theorem State.writePair_readByte (s : State) (rr : Pair) (v : Word) (x : Word) : (s.writePair rr v).readByte x = s.readByte x := by cases rr <;> rfl
/-! ## writeStackPair -/
@[simp] theorem State.writeStackPair_sp (s : State) (qq : StackPair) (v : Word) : (s.writeStackPair qq v).sp = s.sp := by cases qq <;> rfl
@[simp] theorem State.writeStackPair_pc (s : State) (qq : StackPair) (v : Word) : (s.writeStackPair qq v).pc = s.pc := by cases qq <;> rfl
@[simp] theorem State.writeStackPair_ime (s : State) (qq : StackPair) (v : Word) : (s.writeStackPair qq v).ime = s.ime := by cases qq <;> rfl
@[simp] theorem State.writeStackPair_imePending (s : State) (qq : StackPair) (v : Word) : (s.writeStackPair qq v).imePending = s.imePending := by cases qq <;> rfl
@[simp] theorem State.writeStackPair_run (s : State) (qq : StackPair) (v : Word) : (s.writeStackPair qq v).run = s.run := by cases qq <;> rfl
@[simp] theorem State.writeStackPair_cycles (s : State) (qq : StackPair) (v : Word) : (s.writeStackPair qq v).cycles = s.cycles := by cases qq <;> rfl
@[simp] theorem State.writeStackPair_mem (s : State) (qq : StackPair) (v : Word) : (s.writeStackPair qq v).mem = s.mem := by cases qq <;> rfl
@[simp] theorem State.writeStackPair_params (s : State) (qq : StackPair) (v : Word) : (s.writeStackPair qq v).params = s.params := by cases qq <;> rfl
@[simp] theorem State.writeStackPair_readByte (s : State) (qq : StackPair) (v : Word) (x : Word) : (s.writeStackPair qq v).readByte x = s.readByte x := by cases qq <;> rfl

@[simp] theorem State.writePair_readPair (s : State) (rr : Pair) (v : Word) :
    (s.writePair rr v).readPair rr = v := by
  cases rr <;> first | rfl | exact wordOf_hiByte_loByte v

@[simp] theorem State.writeDouble_readDouble (s : State) (rr : DoubleRegister) (v : Word) :
    (s.writeDouble rr v).readDouble rr = if rr = .af then v &&& 0xFFF0#16 else v := by
  cases rr with
  | af =>
    show wordOf (hiByte v) (maskF (maskF (loByte v))) = v &&& 0xFFF0#16
    rw [maskF_maskF]
    unfold wordOf hiByte maskF loByte
    rw [show 0xFFF0#16 = (0xFF#8 ++ 0xF0#8 : BitVec 16) from rfl]
    conv_rhs => rw [← wordOf_hiByte_loByte v]
    unfold wordOf hiByte loByte
    rw [BitVec.and_append]
    congr 1
    exact (BitVec.and_allOnes).symm
  | sp => rfl
  | pc => rfl
  | _ => exact wordOf_hiByte_loByte v

/-- A pair holds its halves (10_state.md R22, R23). -/
theorem State.readPair_toNat (s : State) : (s.readPair .bc).toNat = 256 * s.b.toNat + s.c.toNat ∧
    (s.readPair .de).toNat = 256 * s.d.toNat + s.e.toNat ∧
    (s.readPair .hl).toNat = 256 * s.h.toNat + s.l.toNat :=
  ⟨wordOf_toNat _ _, wordOf_toNat _ _, wordOf_toNat _ _⟩

end Machine

end Sys2Proof
end

