-- ==== Sys2Proof/Laws/Ops.lean ====
section
/-! SUPPORT. What the shared operations do, once each: the stack, the return from an interrupt, the end of a step. -/

namespace Sys2Proof.Machine

/-! ## push16 -/
@[simp] theorem State.push16_a (s : State) (v : Word) : (s.push16 v).a = s.a := rfl
@[simp] theorem State.push16_b (s : State) (v : Word) : (s.push16 v).b = s.b := rfl
@[simp] theorem State.push16_c (s : State) (v : Word) : (s.push16 v).c = s.c := rfl
@[simp] theorem State.push16_d (s : State) (v : Word) : (s.push16 v).d = s.d := rfl
@[simp] theorem State.push16_e (s : State) (v : Word) : (s.push16 v).e = s.e := rfl
@[simp] theorem State.push16_h (s : State) (v : Word) : (s.push16 v).h = s.h := rfl
@[simp] theorem State.push16_l (s : State) (v : Word) : (s.push16 v).l = s.l := rfl
@[simp] theorem State.push16_f (s : State) (v : Word) : (s.push16 v).f = s.f := rfl
@[simp] theorem State.push16_pc (s : State) (v : Word) : (s.push16 v).pc = s.pc := rfl
@[simp] theorem State.push16_ime (s : State) (v : Word) : (s.push16 v).ime = s.ime := rfl
@[simp] theorem State.push16_imePending (s : State) (v : Word) : (s.push16 v).imePending = s.imePending := rfl
@[simp] theorem State.push16_run (s : State) (v : Word) : (s.push16 v).run = s.run := rfl
@[simp] theorem State.push16_cycles (s : State) (v : Word) : (s.push16 v).cycles = s.cycles := rfl
@[simp] theorem State.push16_params (s : State) (v : Word) : (s.push16 v).params = s.params := rfl
@[simp] theorem State.push16_readReg (s : State) (v : Word) (r : Reg8) : (s.push16 v).readReg r = s.readReg r := rfl
@[simp] theorem State.push16_readSingle (s : State) (v : Word) (r : SingleRegister) : (s.push16 v).readSingle r = s.readSingle r := rfl
@[simp] theorem State.push16_readStackPair (s : State) (v : Word) (rr : StackPair) : (s.push16 v).readStackPair rr = s.readStackPair rr := by cases rr <;> rfl
@[simp] theorem State.push16_flags (s : State) (v : Word) : (s.push16 v).flags = s.flags := rfl
@[simp] theorem State.push16_hl (s : State) (v : Word) : (s.push16 v).hl = s.hl := rfl

@[simp] theorem State.push16_sp (s : State) (v : Word) : (s.push16 v).sp = s.sp - 2#16 := by
  show s.sp - 1#16 - 1#16 = s.sp - 2#16
  rw [BitVec.sub_sub]
  rfl

theorem State.pushByte_wf {s : State} (hs : s.mem.wf = true) (v : Byte) : (s.pushByte v).mem.wf = true :=
  Memory.write_wf hs (by have := (s.sp - 1#16).isLt; omega) v

theorem State.pushByte_readByte {s : State} (hs : s.mem.wf = true) (v : Byte) (x : Word) :
    (s.pushByte v).readByte x = if x = s.sp - 1#16 then v else s.readByte x :=
  State.readByte_writeByte (s := s) hs _ _ _

theorem State.push16_wf {s : State} (hs : s.mem.wf = true) (v : Word) : (s.push16 v).mem.wf = true :=
  State.pushByte_wf (State.pushByte_wf hs _) _

/-- Memory after Push16 (20_memory.md R65): the high byte one below the old SP, the low byte two below. -/
theorem State.push16_readByte {s : State} (hs : s.mem.wf = true) (v x : Word) :
    (s.push16 v).readByte x =
      if x = s.sp - 2#16 then loByte v else if x = s.sp - 1#16 then hiByte v else s.readByte x := by
  have h2 : (s.pushByte (hiByte v)).sp - 1#16 = s.sp - 2#16 := by
    show s.sp - 1#16 - 1#16 = s.sp - 2#16
    rw [BitVec.sub_sub]
    rfl
  rw [State.push16, State.pushByte_readByte (State.pushByte_wf hs _), State.pushByte_readByte hs, h2]

@[simp] theorem State.pop16_fst (s : State) :
    s.pop16.1 = wordOf (s.readByte (s.sp + 1#16)) (s.readByte s.sp) := rfl

@[simp] theorem State.pop16_snd (s : State) : s.pop16.2 = s.writeDouble .sp (s.sp + 2#16) := rfl

/-- Pop16 after Push16 gives the pushed value back and SP its old value (R65). -/
theorem State.pop16_push16 {s : State} (hs : s.mem.wf = true) (v : Word) :
    (s.push16 v).pop16.1 = v ∧ (s.push16 v).pop16.2.sp = s.sp := by
  constructor
  · show wordOf ((s.push16 v).readByte ((s.push16 v).sp + 1#16)) ((s.push16 v).readByte (s.push16 v).sp) = v
    rw [State.push16_sp, State.push16_readByte hs, State.push16_readByte hs, if_pos rfl,
      if_neg (by bv_omega), if_pos (by bv_omega), wordOf_hiByte_loByte]
  · show (s.push16 v).sp + 2#16 = s.sp
    rw [State.push16_sp]
    bv_omega

/-! ## popPc -/
@[simp] theorem State.popPc_pc (s : State) : s.popPc.pc = wordOf (s.readByte (s.sp + 1#16)) (s.readByte s.sp) := rfl
@[simp] theorem State.popPc_sp (s : State) : s.popPc.sp = s.sp + 2#16 := rfl
@[simp] theorem State.popPc_a (s : State) : s.popPc.a = s.a := rfl
@[simp] theorem State.popPc_b (s : State) : s.popPc.b = s.b := rfl
@[simp] theorem State.popPc_c (s : State) : s.popPc.c = s.c := rfl
@[simp] theorem State.popPc_d (s : State) : s.popPc.d = s.d := rfl
@[simp] theorem State.popPc_e (s : State) : s.popPc.e = s.e := rfl
@[simp] theorem State.popPc_h (s : State) : s.popPc.h = s.h := rfl
@[simp] theorem State.popPc_l (s : State) : s.popPc.l = s.l := rfl
@[simp] theorem State.popPc_f (s : State) : s.popPc.f = s.f := rfl
@[simp] theorem State.popPc_ime (s : State) : s.popPc.ime = s.ime := rfl
@[simp] theorem State.popPc_imePending (s : State) : s.popPc.imePending = s.imePending := rfl
@[simp] theorem State.popPc_run (s : State) : s.popPc.run = s.run := rfl
@[simp] theorem State.popPc_cycles (s : State) : s.popPc.cycles = s.cycles := rfl
@[simp] theorem State.popPc_mem (s : State) : s.popPc.mem = s.mem := rfl
@[simp] theorem State.popPc_params (s : State) : s.popPc.params = s.params := rfl
@[simp] theorem State.popPc_readReg (s : State) (r : Reg8) : s.popPc.readReg r = s.readReg r := rfl
@[simp] theorem State.popPc_readSingle (s : State) (r : SingleRegister) : s.popPc.readSingle r = s.readSingle r := rfl
@[simp] theorem State.popPc_readStackPair (s : State) (rr : StackPair) : s.popPc.readStackPair rr = s.readStackPair rr := by cases rr <;> rfl
@[simp] theorem State.popPc_flags (s : State) : s.popPc.flags = s.flags := rfl
@[simp] theorem State.popPc_readByte (s : State) (x : Word) : s.popPc.readByte x = s.readByte x := rfl
@[simp] theorem State.popPc_hl (s : State) : s.popPc.hl = s.hl := rfl
@[simp] theorem State.popPc_readAtHl (s : State) : s.popPc.readAtHl = s.readAtHl := rfl

/-! ## The end of a step (30_encoding.md R107) -/

/-- `completeEi` changes nothing but ime and ime_pending, and those only where a pending enable stood before and after. -/
theorem State.completeEi_cases (before after : State) :
    (before.pending = true ∧ after.pending = true ∧
      State.completeEi before after = (after.setIme true).setPending false) ∨
    ((before.pending = false ∨ after.pending = false) ∧ State.completeEi before after = after) := by
  unfold State.completeEi
  cases before.pending <;> cases after.pending <;> simp

/-- With P_EI_DELAY = 0 there is nothing to complete (10_state.md R35). -/
theorem State.completeEi_zero (before after : State) (h : before.params.eiDelay = .zero) :
    State.completeEi before after = after := by
  unfold State.completeEi State.pending
  rw [h]
  rfl

end Sys2Proof.Machine
end

