-- ==== Sys2Proof/Laws/Step.lean ====
section
/-! SUPPORT. Everything a step can do, said once: it idles, it runs one decoded instruction, or it raises UnknownOpcode. -/

namespace Sys2Proof.Machine

theorem step_halted {s : State} (h : s.run = .halted) : step s = .next s.idle := by
  unfold step
  rw [h]

theorem step_stopped {s : State} (h : s.run = .stopped) : step s = .next s.idle := by
  unfold step
  rw [h]

/-- A step of a running core is `exec` of what it fetched, with a pending EI completed (30_encoding.md R107). -/
theorem step_running {s : State} (h : s.run = .running) :
    step s =
      match exec (s.fetchDecode s.pc).1 (s.advance (s.fetchDecode s.pc).2) with
      | .next t => .next (State.completeEi s t)
      | .fault e => .fault e
      | .refused r => .refused r := by
  unfold step
  rw [h] <;> rfl

/-- What a form's run answers: a next state, or UnknownOpcode for an illegal byte (60_exceptions.md R304). -/
theorem Form.run_cases (f : Form) (s : State) :
    (∃ t, Form.run f s = .next t) ∨ (∃ b, f = .illegal b ∧ Form.run f s = .fault (.unknownOpcode b)) := by
  cases f with
  | illegal b => exact .inr ⟨b, rfl, rfl⟩
  | _ => exact .inl ⟨_, rfl⟩

/-- `exec` is never refused, and it faults only for an illegal byte. -/
theorem exec_cases (i : Instr) (s : State) :
    (∃ t, exec i s = .next t) ∨ (∃ b, i = .illegal b ∧ exec i s = .fault (.unknownOpcode b)) := by
  rw [exec_eq_run]
  rcases Form.run_cases i.form s with h | ⟨b, hb, h⟩
  · exact .inl h
  · refine .inr ⟨b, ?_, h⟩
    rw [← Instr.toInstr_form i, hb]
    rfl

/-- A step that has a next state idled, or ran the fetched instruction. -/
theorem step_cases {s t : State} (h : step s = .next t) :
    (s.run ≠ .running ∧ t = s.idle) ∨
    (s.run = .running ∧ ∃ u, exec (s.fetchDecode s.pc).1 (s.advance (s.fetchDecode s.pc).2) = .next u ∧
      t = State.completeEi s u) := by
  cases hr : s.run with
  | running =>
    rw [step_running hr] at h
    split at h <;> cases h
    exact .inr ⟨rfl, _, ‹_›, rfl⟩
  | halted =>
    rw [step_halted hr] at h
    cases h
    exact .inl ⟨by simp, rfl⟩
  | stopped =>
    rw [step_stopped hr] at h
    cases h
    exact .inl ⟨by simp, rfl⟩

end Sys2Proof.Machine
end

