-- ==== Sys2Proof/Tests/Slice0.lean ====
section
/-! SUPPORT. Tests. Expected results come from the spec: the byte maps of 30_encoding.md R100 and R102 for decoding, and
95_test_vectors.md for one step of each instruction. The witnesses show that the hypotheses of each statement are met. -/

namespace Sys2Proof.Machine.Tests

/-! ## Well-formedness -/

theorem test_wf_refuses_a_mapped_byte : ¬ Instr.WellFormed (.illegal 0x00#8) := by decide
theorem test_wf_refuses_the_prefix : ¬ Instr.WellFormed (.illegal 0xCB#8) := by decide
theorem test_wf_accepts_an_unmapped_byte : Instr.WellFormed (.illegal 0xD3#8) := by decide
theorem test_wf_accepts_every_operand : Instr.WellFormed (.ld_mA16_sp 0xFFFF#16) := by decide

/-! ## Decoding: one word for each row of the opcode table -/

/-- The bytes decode to the instruction and are all of it, and it is well formed. -/
def decodesTo (x : List Byte × Instr) : Bool :=
  (match decode x.1 with
    | .ok (i, rest) => decide (i = x.2) && rest.isEmpty
    | .error _ => false) && x.2.wf

/-- Words of the opcode table from main 00 on. -/
def decodeRows0 : List (List Byte × Instr) :=
  [([0x00#8], .nop),
   ([0x01#8, 0x5A#8, 0xC3#8], .ld_bc_d16 0xC35A#16),
   ([0x02#8], .ld_mBC_a),
   ([0x03#8], .inc_bc),
   ([0x04#8], .inc_b),
   ([0x05#8], .dec_b),
   ([0x06#8, 0xA7#8], .ld_b_d8 0xA7#8),
   ([0x07#8], .rlca),
   ([0x08#8, 0x06#8, 0x81#8], .ld_mA16_sp 0x8106#16),
   ([0x09#8], .add_hl_bc),
   ([0x0A#8], .ld_a_mBC),
   ([0x0B#8], .dec_bc),
   ([0x0C#8], .inc_c),
   ([0x0D#8], .dec_c),
   ([0x0E#8, 0xA7#8], .ld_c_d8 0xA7#8),
   ([0x0F#8], .rrca)]

theorem test_decode_rows_0 : decodeRows0.all decodesTo = true := by decide +kernel

/-- Words of the opcode table from main 10 on. -/
def decodeRows1 : List (List Byte × Instr) :=
  [([0x10#8, 0x5C#8], .stop 0x5C#8),
   ([0x11#8, 0x5A#8, 0xC3#8], .ld_de_d16 0xC35A#16),
   ([0x12#8], .ld_mDE_a),
   ([0x13#8], .inc_de),
   ([0x14#8], .inc_d),
   ([0x15#8], .dec_d),
   ([0x16#8, 0xA7#8], .ld_d_d8 0xA7#8),
   ([0x17#8], .rla),
   ([0x18#8, 0xFB#8], .jr_e8 0xFB#8),
   ([0x19#8], .add_hl_de),
   ([0x1A#8], .ld_a_mDE),
   ([0x1B#8], .dec_de),
   ([0x1C#8], .inc_e),
   ([0x1D#8], .dec_e),
   ([0x1E#8, 0xA7#8], .ld_e_d8 0xA7#8),
   ([0x1F#8], .rra)]

theorem test_decode_rows_1 : decodeRows1.all decodesTo = true := by decide +kernel

/-- Words of the opcode table from main 20 on. -/
def decodeRows2 : List (List Byte × Instr) :=
  [([0x20#8, 0xFB#8], .jr_nz_e8 0xFB#8),
   ([0x21#8, 0x5A#8, 0xC3#8], .ld_hl_d16 0xC35A#16),
   ([0x22#8], .ld_mHLinc_a),
   ([0x23#8], .inc_hl),
   ([0x24#8], .inc_h),
   ([0x25#8], .dec_h),
   ([0x26#8, 0xA7#8], .ld_h_d8 0xA7#8),
   ([0x27#8], .daa),
   ([0x28#8, 0xFB#8], .jr_z_e8 0xFB#8),
   ([0x29#8], .add_hl_hl),
   ([0x2A#8], .ld_a_mHLinc),
   ([0x2B#8], .dec_hl),
   ([0x2C#8], .inc_l),
   ([0x2D#8], .dec_l),
   ([0x2E#8, 0xA7#8], .ld_l_d8 0xA7#8),
   ([0x2F#8], .cpl)]

theorem test_decode_rows_2 : decodeRows2.all decodesTo = true := by decide +kernel

/-- Words of the opcode table from main 30 on. -/
def decodeRows3 : List (List Byte × Instr) :=
  [([0x30#8, 0xFB#8], .jr_nc_e8 0xFB#8),
   ([0x31#8, 0x5A#8, 0xC3#8], .ld_sp_d16 0xC35A#16),
   ([0x32#8], .ld_mHLdec_a),
   ([0x33#8], .inc_sp),
   ([0x34#8], .inc_mHL),
   ([0x35#8], .dec_mHL),
   ([0x36#8, 0xA7#8], .ld_mHL_d8 0xA7#8),
   ([0x37#8], .scf),
   ([0x38#8, 0xFB#8], .jr_c_e8 0xFB#8),
   ([0x39#8], .add_hl_sp),
   ([0x3A#8], .ld_a_mHLdec),
   ([0x3B#8], .dec_sp),
   ([0x3C#8], .inc_a),
   ([0x3D#8], .dec_a),
   ([0x3E#8, 0xA7#8], .ld_a_d8 0xA7#8),
   ([0x3F#8], .ccf)]

theorem test_decode_rows_3 : decodeRows3.all decodesTo = true := by decide +kernel

/-- Words of the opcode table from main 40 on. -/
def decodeRows4 : List (List Byte × Instr) :=
  [([0x40#8], .ld_b_b),
   ([0x41#8], .ld_b_c),
   ([0x42#8], .ld_b_d),
   ([0x43#8], .ld_b_e),
   ([0x44#8], .ld_b_h),
   ([0x45#8], .ld_b_l),
   ([0x46#8], .ld_b_mHL),
   ([0x47#8], .ld_b_a),
   ([0x48#8], .ld_c_b),
   ([0x49#8], .ld_c_c),
   ([0x4A#8], .ld_c_d),
   ([0x4B#8], .ld_c_e),
   ([0x4C#8], .ld_c_h),
   ([0x4D#8], .ld_c_l),
   ([0x4E#8], .ld_c_mHL),
   ([0x4F#8], .ld_c_a)]

theorem test_decode_rows_4 : decodeRows4.all decodesTo = true := by decide +kernel

/-- Words of the opcode table from main 50 on. -/
def decodeRows5 : List (List Byte × Instr) :=
  [([0x50#8], .ld_d_b),
   ([0x51#8], .ld_d_c),
   ([0x52#8], .ld_d_d),
   ([0x53#8], .ld_d_e),
   ([0x54#8], .ld_d_h),
   ([0x55#8], .ld_d_l),
   ([0x56#8], .ld_d_mHL),
   ([0x57#8], .ld_d_a),
   ([0x58#8], .ld_e_b),
   ([0x59#8], .ld_e_c),
   ([0x5A#8], .ld_e_d),
   ([0x5B#8], .ld_e_e),
   ([0x5C#8], .ld_e_h),
   ([0x5D#8], .ld_e_l),
   ([0x5E#8], .ld_e_mHL),
   ([0x5F#8], .ld_e_a)]

theorem test_decode_rows_5 : decodeRows5.all decodesTo = true := by decide +kernel

/-- Words of the opcode table from main 60 on. -/
def decodeRows6 : List (List Byte × Instr) :=
  [([0x60#8], .ld_h_b),
   ([0x61#8], .ld_h_c),
   ([0x62#8], .ld_h_d),
   ([0x63#8], .ld_h_e),
   ([0x64#8], .ld_h_h),
   ([0x65#8], .ld_h_l),
   ([0x66#8], .ld_h_mHL),
   ([0x67#8], .ld_h_a),
   ([0x68#8], .ld_l_b),
   ([0x69#8], .ld_l_c),
   ([0x6A#8], .ld_l_d),
   ([0x6B#8], .ld_l_e),
   ([0x6C#8], .ld_l_h),
   ([0x6D#8], .ld_l_l),
   ([0x6E#8], .ld_l_mHL),
   ([0x6F#8], .ld_l_a)]

theorem test_decode_rows_6 : decodeRows6.all decodesTo = true := by decide +kernel

/-- Words of the opcode table from main 70 on. -/
def decodeRows7 : List (List Byte × Instr) :=
  [([0x70#8], .ld_mHL_b),
   ([0x71#8], .ld_mHL_c),
   ([0x72#8], .ld_mHL_d),
   ([0x73#8], .ld_mHL_e),
   ([0x74#8], .ld_mHL_h),
   ([0x75#8], .ld_mHL_l),
   ([0x76#8], .halt),
   ([0x77#8], .ld_mHL_a),
   ([0x78#8], .ld_a_b),
   ([0x79#8], .ld_a_c),
   ([0x7A#8], .ld_a_d),
   ([0x7B#8], .ld_a_e),
   ([0x7C#8], .ld_a_h),
   ([0x7D#8], .ld_a_l),
   ([0x7E#8], .ld_a_mHL),
   ([0x7F#8], .ld_a_a)]

theorem test_decode_rows_7 : decodeRows7.all decodesTo = true := by decide +kernel

/-- Words of the opcode table from main 80 on. -/
def decodeRows8 : List (List Byte × Instr) :=
  [([0x80#8], .add_a_b),
   ([0x81#8], .add_a_c),
   ([0x82#8], .add_a_d),
   ([0x83#8], .add_a_e),
   ([0x84#8], .add_a_h),
   ([0x85#8], .add_a_l),
   ([0x86#8], .add_a_mHL),
   ([0x87#8], .add_a_a),
   ([0x88#8], .adc_a_b),
   ([0x89#8], .adc_a_c),
   ([0x8A#8], .adc_a_d),
   ([0x8B#8], .adc_a_e),
   ([0x8C#8], .adc_a_h),
   ([0x8D#8], .adc_a_l),
   ([0x8E#8], .adc_a_mHL),
   ([0x8F#8], .adc_a_a)]

theorem test_decode_rows_8 : decodeRows8.all decodesTo = true := by decide +kernel

/-- Words of the opcode table from main 90 on. -/
def decodeRows9 : List (List Byte × Instr) :=
  [([0x90#8], .sub_b),
   ([0x91#8], .sub_c),
   ([0x92#8], .sub_d),
   ([0x93#8], .sub_e),
   ([0x94#8], .sub_h),
   ([0x95#8], .sub_l),
   ([0x96#8], .sub_mHL),
   ([0x97#8], .sub_a),
   ([0x98#8], .sbc_a_b),
   ([0x99#8], .sbc_a_c),
   ([0x9A#8], .sbc_a_d),
   ([0x9B#8], .sbc_a_e),
   ([0x9C#8], .sbc_a_h),
   ([0x9D#8], .sbc_a_l),
   ([0x9E#8], .sbc_a_mHL),
   ([0x9F#8], .sbc_a_a)]

theorem test_decode_rows_9 : decodeRows9.all decodesTo = true := by decide +kernel

/-- Words of the opcode table from main A0 on. -/
def decodeRows10 : List (List Byte × Instr) :=
  [([0xA0#8], .and_b),
   ([0xA1#8], .and_c),
   ([0xA2#8], .and_d),
   ([0xA3#8], .and_e),
   ([0xA4#8], .and_h),
   ([0xA5#8], .and_l),
   ([0xA6#8], .and_mHL),
   ([0xA7#8], .and_a),
   ([0xA8#8], .xor_b),
   ([0xA9#8], .xor_c),
   ([0xAA#8], .xor_d),
   ([0xAB#8], .xor_e),
   ([0xAC#8], .xor_h),
   ([0xAD#8], .xor_l),
   ([0xAE#8], .xor_mHL),
   ([0xAF#8], .xor_a)]

theorem test_decode_rows_10 : decodeRows10.all decodesTo = true := by decide +kernel

/-- Words of the opcode table from main B0 on. -/
def decodeRows11 : List (List Byte × Instr) :=
  [([0xB0#8], .or_b),
   ([0xB1#8], .or_c),
   ([0xB2#8], .or_d),
   ([0xB3#8], .or_e),
   ([0xB4#8], .or_h),
   ([0xB5#8], .or_l),
   ([0xB6#8], .or_mHL),
   ([0xB7#8], .or_a),
   ([0xB8#8], .cp_b),
   ([0xB9#8], .cp_c),
   ([0xBA#8], .cp_d),
   ([0xBB#8], .cp_e),
   ([0xBC#8], .cp_h),
   ([0xBD#8], .cp_l),
   ([0xBE#8], .cp_mHL),
   ([0xBF#8], .cp_a)]

theorem test_decode_rows_11 : decodeRows11.all decodesTo = true := by decide +kernel

/-- Words of the opcode table from main C0 on. -/
def decodeRows12 : List (List Byte × Instr) :=
  [([0xC0#8], .ret_nz),
   ([0xC1#8], .pop_bc),
   ([0xC2#8, 0x06#8, 0x81#8], .jp_nz_a16 0x8106#16),
   ([0xC3#8, 0x06#8, 0x81#8], .jp_a16 0x8106#16),
   ([0xC4#8, 0x06#8, 0x81#8], .call_nz_a16 0x8106#16),
   ([0xC5#8], .push_bc),
   ([0xC6#8, 0xA7#8], .add_a_d8 0xA7#8),
   ([0xC7#8], .rst_00h),
   ([0xC8#8], .ret_z),
   ([0xC9#8], .ret),
   ([0xCA#8, 0x06#8, 0x81#8], .jp_z_a16 0x8106#16),
   ([0xCC#8, 0x06#8, 0x81#8], .call_z_a16 0x8106#16),
   ([0xCD#8, 0x06#8, 0x81#8], .call_a16 0x8106#16),
   ([0xCE#8, 0xA7#8], .adc_a_d8 0xA7#8),
   ([0xCF#8], .rst_08h),
   ([0xD0#8], .ret_nc)]

theorem test_decode_rows_12 : decodeRows12.all decodesTo = true := by decide +kernel

/-- Words of the opcode table from main D1 on. -/
def decodeRows13 : List (List Byte × Instr) :=
  [([0xD1#8], .pop_de),
   ([0xD2#8, 0x06#8, 0x81#8], .jp_nc_a16 0x8106#16),
   ([0xD3#8], .illegal 0xD3#8),
   ([0xD4#8, 0x06#8, 0x81#8], .call_nc_a16 0x8106#16),
   ([0xD5#8], .push_de),
   ([0xD6#8, 0xA7#8], .sub_d8 0xA7#8),
   ([0xD7#8], .rst_10h),
   ([0xD8#8], .ret_c),
   ([0xD9#8], .reti),
   ([0xDA#8, 0x06#8, 0x81#8], .jp_c_a16 0x8106#16),
   ([0xDB#8], .illegal 0xDB#8),
   ([0xDC#8, 0x06#8, 0x81#8], .call_c_a16 0x8106#16),
   ([0xDD#8], .illegal 0xDD#8),
   ([0xDE#8, 0xA7#8], .sbc_a_d8 0xA7#8),
   ([0xDF#8], .rst_18h),
   ([0xE0#8, 0x44#8], .ldh_mA8_a 0x44#8)]

theorem test_decode_rows_13 : decodeRows13.all decodesTo = true := by decide +kernel

/-- Words of the opcode table from main E1 on. -/
def decodeRows14 : List (List Byte × Instr) :=
  [([0xE1#8], .pop_hl),
   ([0xE2#8], .ld_mC_a),
   ([0xE3#8], .illegal 0xE3#8),
   ([0xE4#8], .illegal 0xE4#8),
   ([0xE5#8], .push_hl),
   ([0xE6#8, 0xA7#8], .and_d8 0xA7#8),
   ([0xE7#8], .rst_20h),
   ([0xE8#8, 0xFB#8], .add_sp_e8 0xFB#8),
   ([0xE9#8], .jp_hl),
   ([0xEA#8, 0x06#8, 0x81#8], .ld_mA16_a 0x8106#16),
   ([0xEB#8], .illegal 0xEB#8),
   ([0xEC#8], .illegal 0xEC#8),
   ([0xED#8], .illegal 0xED#8),
   ([0xEE#8, 0xA7#8], .xor_d8 0xA7#8),
   ([0xEF#8], .rst_28h),
   ([0xF0#8, 0x44#8], .ldh_a_mA8 0x44#8)]

theorem test_decode_rows_14 : decodeRows14.all decodesTo = true := by decide +kernel

/-- Words of the opcode table from main F1 on. -/
def decodeRows15 : List (List Byte × Instr) :=
  [([0xF1#8], .pop_af),
   ([0xF2#8], .ld_a_mC),
   ([0xF3#8], .di),
   ([0xF4#8], .illegal 0xF4#8),
   ([0xF5#8], .push_af),
   ([0xF6#8, 0xA7#8], .or_d8 0xA7#8),
   ([0xF7#8], .rst_30h),
   ([0xF8#8, 0xFB#8], .ld_hl_sp_e8 0xFB#8),
   ([0xF9#8], .ld_sp_hl),
   ([0xFA#8, 0x06#8, 0x81#8], .ld_a_mA16 0x8106#16),
   ([0xFB#8], .ei),
   ([0xFC#8], .illegal 0xFC#8),
   ([0xFD#8], .illegal 0xFD#8),
   ([0xFE#8, 0xA7#8], .cp_d8 0xA7#8),
   ([0xFF#8], .rst_38h),
   ([0xCB#8, 0x00#8], .rlc_b)]

theorem test_decode_rows_15 : decodeRows15.all decodesTo = true := by decide +kernel

/-- Words of the opcode table from CB 01 on. -/
def decodeRows16 : List (List Byte × Instr) :=
  [([0xCB#8, 0x01#8], .rlc_c),
   ([0xCB#8, 0x02#8], .rlc_d),
   ([0xCB#8, 0x03#8], .rlc_e),
   ([0xCB#8, 0x04#8], .rlc_h),
   ([0xCB#8, 0x05#8], .rlc_l),
   ([0xCB#8, 0x06#8], .rlc_mHL),
   ([0xCB#8, 0x07#8], .rlc_a),
   ([0xCB#8, 0x08#8], .rrc_b),
   ([0xCB#8, 0x09#8], .rrc_c),
   ([0xCB#8, 0x0A#8], .rrc_d),
   ([0xCB#8, 0x0B#8], .rrc_e),
   ([0xCB#8, 0x0C#8], .rrc_h),
   ([0xCB#8, 0x0D#8], .rrc_l),
   ([0xCB#8, 0x0E#8], .rrc_mHL),
   ([0xCB#8, 0x0F#8], .rrc_a),
   ([0xCB#8, 0x10#8], .rl_b)]

theorem test_decode_rows_16 : decodeRows16.all decodesTo = true := by decide +kernel

/-- Words of the opcode table from CB 11 on. -/
def decodeRows17 : List (List Byte × Instr) :=
  [([0xCB#8, 0x11#8], .rl_c),
   ([0xCB#8, 0x12#8], .rl_d),
   ([0xCB#8, 0x13#8], .rl_e),
   ([0xCB#8, 0x14#8], .rl_h),
   ([0xCB#8, 0x15#8], .rl_l),
   ([0xCB#8, 0x16#8], .rl_mHL),
   ([0xCB#8, 0x17#8], .rl_a),
   ([0xCB#8, 0x18#8], .rr_b),
   ([0xCB#8, 0x19#8], .rr_c),
   ([0xCB#8, 0x1A#8], .rr_d),
   ([0xCB#8, 0x1B#8], .rr_e),
   ([0xCB#8, 0x1C#8], .rr_h),
   ([0xCB#8, 0x1D#8], .rr_l),
   ([0xCB#8, 0x1E#8], .rr_mHL),
   ([0xCB#8, 0x1F#8], .rr_a),
   ([0xCB#8, 0x20#8], .sla_b)]

theorem test_decode_rows_17 : decodeRows17.all decodesTo = true := by decide +kernel

/-- Words of the opcode table from CB 21 on. -/
def decodeRows18 : List (List Byte × Instr) :=
  [([0xCB#8, 0x21#8], .sla_c),
   ([0xCB#8, 0x22#8], .sla_d),
   ([0xCB#8, 0x23#8], .sla_e),
   ([0xCB#8, 0x24#8], .sla_h),
   ([0xCB#8, 0x25#8], .sla_l),
   ([0xCB#8, 0x26#8], .sla_mHL),
   ([0xCB#8, 0x27#8], .sla_a),
   ([0xCB#8, 0x28#8], .sra_b),
   ([0xCB#8, 0x29#8], .sra_c),
   ([0xCB#8, 0x2A#8], .sra_d),
   ([0xCB#8, 0x2B#8], .sra_e),
   ([0xCB#8, 0x2C#8], .sra_h),
   ([0xCB#8, 0x2D#8], .sra_l),
   ([0xCB#8, 0x2E#8], .sra_mHL),
   ([0xCB#8, 0x2F#8], .sra_a),
   ([0xCB#8, 0x30#8], .swap_b)]

theorem test_decode_rows_18 : decodeRows18.all decodesTo = true := by decide +kernel

/-- Words of the opcode table from CB 31 on. -/
def decodeRows19 : List (List Byte × Instr) :=
  [([0xCB#8, 0x31#8], .swap_c),
   ([0xCB#8, 0x32#8], .swap_d),
   ([0xCB#8, 0x33#8], .swap_e),
   ([0xCB#8, 0x34#8], .swap_h),
   ([0xCB#8, 0x35#8], .swap_l),
   ([0xCB#8, 0x36#8], .swap_mHL),
   ([0xCB#8, 0x37#8], .swap_a),
   ([0xCB#8, 0x38#8], .srl_b),
   ([0xCB#8, 0x39#8], .srl_c),
   ([0xCB#8, 0x3A#8], .srl_d),
   ([0xCB#8, 0x3B#8], .srl_e),
   ([0xCB#8, 0x3C#8], .srl_h),
   ([0xCB#8, 0x3D#8], .srl_l),
   ([0xCB#8, 0x3E#8], .srl_mHL),
   ([0xCB#8, 0x3F#8], .srl_a),
   ([0xCB#8, 0x40#8], .bit_0_b)]

theorem test_decode_rows_19 : decodeRows19.all decodesTo = true := by decide +kernel

/-- Words of the opcode table from CB 41 on. -/
def decodeRows20 : List (List Byte × Instr) :=
  [([0xCB#8, 0x41#8], .bit_0_c),
   ([0xCB#8, 0x42#8], .bit_0_d),
   ([0xCB#8, 0x43#8], .bit_0_e),
   ([0xCB#8, 0x44#8], .bit_0_h),
   ([0xCB#8, 0x45#8], .bit_0_l),
   ([0xCB#8, 0x46#8], .bit_0_mHL),
   ([0xCB#8, 0x47#8], .bit_0_a),
   ([0xCB#8, 0x48#8], .bit_1_b),
   ([0xCB#8, 0x49#8], .bit_1_c),
   ([0xCB#8, 0x4A#8], .bit_1_d),
   ([0xCB#8, 0x4B#8], .bit_1_e),
   ([0xCB#8, 0x4C#8], .bit_1_h),
   ([0xCB#8, 0x4D#8], .bit_1_l),
   ([0xCB#8, 0x4E#8], .bit_1_mHL),
   ([0xCB#8, 0x4F#8], .bit_1_a),
   ([0xCB#8, 0x50#8], .bit_2_b)]

theorem test_decode_rows_20 : decodeRows20.all decodesTo = true := by decide +kernel

/-- Words of the opcode table from CB 51 on. -/
def decodeRows21 : List (List Byte × Instr) :=
  [([0xCB#8, 0x51#8], .bit_2_c),
   ([0xCB#8, 0x52#8], .bit_2_d),
   ([0xCB#8, 0x53#8], .bit_2_e),
   ([0xCB#8, 0x54#8], .bit_2_h),
   ([0xCB#8, 0x55#8], .bit_2_l),
   ([0xCB#8, 0x56#8], .bit_2_mHL),
   ([0xCB#8, 0x57#8], .bit_2_a),
   ([0xCB#8, 0x58#8], .bit_3_b),
   ([0xCB#8, 0x59#8], .bit_3_c),
   ([0xCB#8, 0x5A#8], .bit_3_d),
   ([0xCB#8, 0x5B#8], .bit_3_e),
   ([0xCB#8, 0x5C#8], .bit_3_h),
   ([0xCB#8, 0x5D#8], .bit_3_l),
   ([0xCB#8, 0x5E#8], .bit_3_mHL),
   ([0xCB#8, 0x5F#8], .bit_3_a),
   ([0xCB#8, 0x60#8], .bit_4_b)]

theorem test_decode_rows_21 : decodeRows21.all decodesTo = true := by decide +kernel

/-- Words of the opcode table from CB 61 on. -/
def decodeRows22 : List (List Byte × Instr) :=
  [([0xCB#8, 0x61#8], .bit_4_c),
   ([0xCB#8, 0x62#8], .bit_4_d),
   ([0xCB#8, 0x63#8], .bit_4_e),
   ([0xCB#8, 0x64#8], .bit_4_h),
   ([0xCB#8, 0x65#8], .bit_4_l),
   ([0xCB#8, 0x66#8], .bit_4_mHL),
   ([0xCB#8, 0x67#8], .bit_4_a),
   ([0xCB#8, 0x68#8], .bit_5_b),
   ([0xCB#8, 0x69#8], .bit_5_c),
   ([0xCB#8, 0x6A#8], .bit_5_d),
   ([0xCB#8, 0x6B#8], .bit_5_e),
   ([0xCB#8, 0x6C#8], .bit_5_h),
   ([0xCB#8, 0x6D#8], .bit_5_l),
   ([0xCB#8, 0x6E#8], .bit_5_mHL),
   ([0xCB#8, 0x6F#8], .bit_5_a),
   ([0xCB#8, 0x70#8], .bit_6_b)]

theorem test_decode_rows_22 : decodeRows22.all decodesTo = true := by decide +kernel

/-- Words of the opcode table from CB 71 on. -/
def decodeRows23 : List (List Byte × Instr) :=
  [([0xCB#8, 0x71#8], .bit_6_c),
   ([0xCB#8, 0x72#8], .bit_6_d),
   ([0xCB#8, 0x73#8], .bit_6_e),
   ([0xCB#8, 0x74#8], .bit_6_h),
   ([0xCB#8, 0x75#8], .bit_6_l),
   ([0xCB#8, 0x76#8], .bit_6_mHL),
   ([0xCB#8, 0x77#8], .bit_6_a),
   ([0xCB#8, 0x78#8], .bit_7_b),
   ([0xCB#8, 0x79#8], .bit_7_c),
   ([0xCB#8, 0x7A#8], .bit_7_d),
   ([0xCB#8, 0x7B#8], .bit_7_e),
   ([0xCB#8, 0x7C#8], .bit_7_h),
   ([0xCB#8, 0x7D#8], .bit_7_l),
   ([0xCB#8, 0x7E#8], .bit_7_mHL),
   ([0xCB#8, 0x7F#8], .bit_7_a),
   ([0xCB#8, 0x80#8], .res_0_b)]

theorem test_decode_rows_23 : decodeRows23.all decodesTo = true := by decide +kernel

/-- Words of the opcode table from CB 81 on. -/
def decodeRows24 : List (List Byte × Instr) :=
  [([0xCB#8, 0x81#8], .res_0_c),
   ([0xCB#8, 0x82#8], .res_0_d),
   ([0xCB#8, 0x83#8], .res_0_e),
   ([0xCB#8, 0x84#8], .res_0_h),
   ([0xCB#8, 0x85#8], .res_0_l),
   ([0xCB#8, 0x86#8], .res_0_mHL),
   ([0xCB#8, 0x87#8], .res_0_a),
   ([0xCB#8, 0x88#8], .res_1_b),
   ([0xCB#8, 0x89#8], .res_1_c),
   ([0xCB#8, 0x8A#8], .res_1_d),
   ([0xCB#8, 0x8B#8], .res_1_e),
   ([0xCB#8, 0x8C#8], .res_1_h),
   ([0xCB#8, 0x8D#8], .res_1_l),
   ([0xCB#8, 0x8E#8], .res_1_mHL),
   ([0xCB#8, 0x8F#8], .res_1_a),
   ([0xCB#8, 0x90#8], .res_2_b)]

theorem test_decode_rows_24 : decodeRows24.all decodesTo = true := by decide +kernel

/-- Words of the opcode table from CB 91 on. -/
def decodeRows25 : List (List Byte × Instr) :=
  [([0xCB#8, 0x91#8], .res_2_c),
   ([0xCB#8, 0x92#8], .res_2_d),
   ([0xCB#8, 0x93#8], .res_2_e),
   ([0xCB#8, 0x94#8], .res_2_h),
   ([0xCB#8, 0x95#8], .res_2_l),
   ([0xCB#8, 0x96#8], .res_2_mHL),
   ([0xCB#8, 0x97#8], .res_2_a),
   ([0xCB#8, 0x98#8], .res_3_b),
   ([0xCB#8, 0x99#8], .res_3_c),
   ([0xCB#8, 0x9A#8], .res_3_d),
   ([0xCB#8, 0x9B#8], .res_3_e),
   ([0xCB#8, 0x9C#8], .res_3_h),
   ([0xCB#8, 0x9D#8], .res_3_l),
   ([0xCB#8, 0x9E#8], .res_3_mHL),
   ([0xCB#8, 0x9F#8], .res_3_a),
   ([0xCB#8, 0xA0#8], .res_4_b)]

theorem test_decode_rows_25 : decodeRows25.all decodesTo = true := by decide +kernel

/-- Words of the opcode table from CB A1 on. -/
def decodeRows26 : List (List Byte × Instr) :=
  [([0xCB#8, 0xA1#8], .res_4_c),
   ([0xCB#8, 0xA2#8], .res_4_d),
   ([0xCB#8, 0xA3#8], .res_4_e),
   ([0xCB#8, 0xA4#8], .res_4_h),
   ([0xCB#8, 0xA5#8], .res_4_l),
   ([0xCB#8, 0xA6#8], .res_4_mHL),
   ([0xCB#8, 0xA7#8], .res_4_a),
   ([0xCB#8, 0xA8#8], .res_5_b),
   ([0xCB#8, 0xA9#8], .res_5_c),
   ([0xCB#8, 0xAA#8], .res_5_d),
   ([0xCB#8, 0xAB#8], .res_5_e),
   ([0xCB#8, 0xAC#8], .res_5_h),
   ([0xCB#8, 0xAD#8], .res_5_l),
   ([0xCB#8, 0xAE#8], .res_5_mHL),
   ([0xCB#8, 0xAF#8], .res_5_a),
   ([0xCB#8, 0xB0#8], .res_6_b)]

theorem test_decode_rows_26 : decodeRows26.all decodesTo = true := by decide +kernel

/-- Words of the opcode table from CB B1 on. -/
def decodeRows27 : List (List Byte × Instr) :=
  [([0xCB#8, 0xB1#8], .res_6_c),
   ([0xCB#8, 0xB2#8], .res_6_d),
   ([0xCB#8, 0xB3#8], .res_6_e),
   ([0xCB#8, 0xB4#8], .res_6_h),
   ([0xCB#8, 0xB5#8], .res_6_l),
   ([0xCB#8, 0xB6#8], .res_6_mHL),
   ([0xCB#8, 0xB7#8], .res_6_a),
   ([0xCB#8, 0xB8#8], .res_7_b),
   ([0xCB#8, 0xB9#8], .res_7_c),
   ([0xCB#8, 0xBA#8], .res_7_d),
   ([0xCB#8, 0xBB#8], .res_7_e),
   ([0xCB#8, 0xBC#8], .res_7_h),
   ([0xCB#8, 0xBD#8], .res_7_l),
   ([0xCB#8, 0xBE#8], .res_7_mHL),
   ([0xCB#8, 0xBF#8], .res_7_a),
   ([0xCB#8, 0xC0#8], .set_0_b)]

theorem test_decode_rows_27 : decodeRows27.all decodesTo = true := by decide +kernel

/-- Words of the opcode table from CB C1 on. -/
def decodeRows28 : List (List Byte × Instr) :=
  [([0xCB#8, 0xC1#8], .set_0_c),
   ([0xCB#8, 0xC2#8], .set_0_d),
   ([0xCB#8, 0xC3#8], .set_0_e),
   ([0xCB#8, 0xC4#8], .set_0_h),
   ([0xCB#8, 0xC5#8], .set_0_l),
   ([0xCB#8, 0xC6#8], .set_0_mHL),
   ([0xCB#8, 0xC7#8], .set_0_a),
   ([0xCB#8, 0xC8#8], .set_1_b),
   ([0xCB#8, 0xC9#8], .set_1_c),
   ([0xCB#8, 0xCA#8], .set_1_d),
   ([0xCB#8, 0xCB#8], .set_1_e),
   ([0xCB#8, 0xCC#8], .set_1_h),
   ([0xCB#8, 0xCD#8], .set_1_l),
   ([0xCB#8, 0xCE#8], .set_1_mHL),
   ([0xCB#8, 0xCF#8], .set_1_a),
   ([0xCB#8, 0xD0#8], .set_2_b)]

theorem test_decode_rows_28 : decodeRows28.all decodesTo = true := by decide +kernel

/-- Words of the opcode table from CB D1 on. -/
def decodeRows29 : List (List Byte × Instr) :=
  [([0xCB#8, 0xD1#8], .set_2_c),
   ([0xCB#8, 0xD2#8], .set_2_d),
   ([0xCB#8, 0xD3#8], .set_2_e),
   ([0xCB#8, 0xD4#8], .set_2_h),
   ([0xCB#8, 0xD5#8], .set_2_l),
   ([0xCB#8, 0xD6#8], .set_2_mHL),
   ([0xCB#8, 0xD7#8], .set_2_a),
   ([0xCB#8, 0xD8#8], .set_3_b),
   ([0xCB#8, 0xD9#8], .set_3_c),
   ([0xCB#8, 0xDA#8], .set_3_d),
   ([0xCB#8, 0xDB#8], .set_3_e),
   ([0xCB#8, 0xDC#8], .set_3_h),
   ([0xCB#8, 0xDD#8], .set_3_l),
   ([0xCB#8, 0xDE#8], .set_3_mHL),
   ([0xCB#8, 0xDF#8], .set_3_a),
   ([0xCB#8, 0xE0#8], .set_4_b)]

theorem test_decode_rows_29 : decodeRows29.all decodesTo = true := by decide +kernel

/-- Words of the opcode table from CB E1 on. -/
def decodeRows30 : List (List Byte × Instr) :=
  [([0xCB#8, 0xE1#8], .set_4_c),
   ([0xCB#8, 0xE2#8], .set_4_d),
   ([0xCB#8, 0xE3#8], .set_4_e),
   ([0xCB#8, 0xE4#8], .set_4_h),
   ([0xCB#8, 0xE5#8], .set_4_l),
   ([0xCB#8, 0xE6#8], .set_4_mHL),
   ([0xCB#8, 0xE7#8], .set_4_a),
   ([0xCB#8, 0xE8#8], .set_5_b),
   ([0xCB#8, 0xE9#8], .set_5_c),
   ([0xCB#8, 0xEA#8], .set_5_d),
   ([0xCB#8, 0xEB#8], .set_5_e),
   ([0xCB#8, 0xEC#8], .set_5_h),
   ([0xCB#8, 0xED#8], .set_5_l),
   ([0xCB#8, 0xEE#8], .set_5_mHL),
   ([0xCB#8, 0xEF#8], .set_5_a),
   ([0xCB#8, 0xF0#8], .set_6_b)]

theorem test_decode_rows_30 : decodeRows30.all decodesTo = true := by decide +kernel

/-- Words of the opcode table from CB F1 on. -/
def decodeRows31 : List (List Byte × Instr) :=
  [([0xCB#8, 0xF1#8], .set_6_c),
   ([0xCB#8, 0xF2#8], .set_6_d),
   ([0xCB#8, 0xF3#8], .set_6_e),
   ([0xCB#8, 0xF4#8], .set_6_h),
   ([0xCB#8, 0xF5#8], .set_6_l),
   ([0xCB#8, 0xF6#8], .set_6_mHL),
   ([0xCB#8, 0xF7#8], .set_6_a),
   ([0xCB#8, 0xF8#8], .set_7_b),
   ([0xCB#8, 0xF9#8], .set_7_c),
   ([0xCB#8, 0xFA#8], .set_7_d),
   ([0xCB#8, 0xFB#8], .set_7_e),
   ([0xCB#8, 0xFC#8], .set_7_h),
   ([0xCB#8, 0xFD#8], .set_7_l),
   ([0xCB#8, 0xFE#8], .set_7_mHL),
   ([0xCB#8, 0xFF#8], .set_7_a)]

theorem test_decode_rows_31 : decodeRows31.all decodesTo = true := by decide +kernel


theorem test_decode_truncated : decode [0x01#8, 0x00#8] = .error .truncated := by decide
theorem test_decode_nothing : decode [] = .error .truncated := by decide

/-- A word as the opcode table numbers it: a CB row has its first byte in bits 15..8. -/
theorem test_table_word_cb : decodeTableWord 16 0xCB37 = some .swap_a := by decide
theorem test_table_word_main : decodeTableWord 8 0x01 = some (.ld_bc_d16 0x0000#16) := by decide
theorem test_table_word_immediate : decodeTableWord 24 0xC35A01 = some (.ld_bc_d16 0xC35A#16) := by decide
theorem test_table_word_illegal : decodeTableWord 8 0xD3 = some (.illegal 0xD3#8) := by decide

/-! ## One step, as the host takes it -/

/-- What a step gives, as a check of the next state. -/
def nextIs (r : Result) (p : State → Bool) : Bool :=
  match r with
  | .next t => p t
  | .fault _ => false
  | .refused _ => false

theorem test_fetch_word_main :
    nextIs (step (State.reset.withFetchWord 8 0x3C)) (fun t => t.a == 0x01#8 && t.pc == 0x0001#16) = true := by decide
theorem test_fetch_word_cb :
    nextIs (step (State.reset.withFetchWord 16 0xCBC7)) (fun t => t.a == 0x01#8 && t.pc == 0x0002#16) = true := by decide
theorem test_fetch_word_illegal :
    step (State.reset.withFetchWord 8 0xFD) = .fault (.unknownOpcode 0xFD#8) := by rfl

/-! ## The vectors of 95_test_vectors.md sections 1 and 2, one step each -/

/-- The start state of 95_test_vectors.md section 0. -/
def fixture : State :=
  { a := 0#8, b := 0#8, c := 0#8, d := 0#8, e := 0#8, h := 0#8, l := 0#8, f := 0#8, sp := 0xFFFE#16, pc := 0x0100#16
    ime := false, imePending := false, run := .running, cycles := 0, mem := [], params := Config.defaultParams }

/-- One row: the instruction's bytes and address, the M-cycles, and what the start and the end have apart from the
fixture and from the start. -/
structure Vector where
  bytes : List Byte
  pc : Word
  cost : Nat
  start : State → State
  finish : State → State

/-- The step gives exactly the end state of the row: whatever the row does not list is unchanged. -/
def Vector.passes (v : Vector) : Bool :=
  let s := (v.start { fixture with pc := v.pc }).placeBytes v.pc v.bytes
  nextIs (step s) (fun t => decide (t = { v.finish s with cycles := v.cost }))

/-- From ADD A,A to ADC A,E. -/
def vectors0 : List Vector :=
  [{ bytes := [0x87#8], pc := 0x0100#16, cost := 1
     start := fun s => { s with a := 0xFF#8, f := 0x00#8 }
     finish := fun s => { s with a := 0xFE#8, pc := 0x0101#16, f := 0x30#8 } },
   { bytes := [0x97#8], pc := 0x0100#16, cost := 1
     start := fun s => { s with a := 0xFF#8, f := 0x00#8 }
     finish := fun s => { s with a := 0x00#8, pc := 0x0101#16, f := 0xC0#8 } },
   { bytes := [0x97#8], pc := 0x0100#16, cost := 1
     start := fun s => { s with a := 0x00#8, f := 0x30#8 }
     finish := fun s => { s with pc := 0x0101#16, f := 0xC0#8 } },
   { bytes := [0xCB#8, 0x7F#8], pc := 0x0100#16, cost := 2
     start := fun s => { s with a := 0x80#8, f := 0x00#8 }
     finish := fun s => { s with pc := 0x0102#16, f := 0x20#8 } },
   { bytes := [0xCB#8, 0x7F#8], pc := 0x0100#16, cost := 2
     start := fun s => { s with a := 0x7F#8, f := 0x00#8 }
     finish := fun s => { s with pc := 0x0102#16, f := 0xA0#8 } },
   { bytes := [0xC2#8, 0x00#8, 0x02#8], pc := 0x0100#16, cost := 3
     start := fun s => { s with f := 0x80#8 }
     finish := fun s => { s with pc := 0x0103#16, f := 0x80#8 } },
   { bytes := [0xC2#8, 0x00#8, 0x02#8], pc := 0x0100#16, cost := 4
     start := fun s => { s with f := 0x00#8 }
     finish := fun s => { s with pc := 0x0200#16, f := 0x00#8 } },
   { bytes := [0xCD#8, 0x10#8, 0x01#8], pc := 0x0100#16, cost := 6
     start := fun s => { s with sp := 0xFFFE#16, f := 0x00#8 }
     finish := fun s => (({ s with sp := 0xFFFC#16, pc := 0x0110#16, f := 0x00#8 } : State).writeByte 0xFFFC#16 0x03#8).writeByte 0xFFFD#16 0x01#8 },
   { bytes := [0xC9#8], pc := 0x0110#16, cost := 4
     start := fun s => (({ s with sp := 0xFFFC#16, f := 0x00#8 } : State).writeByte 0xFFFC#16 0x03#8).writeByte 0xFFFD#16 0x01#8
     finish := fun s => { s with sp := 0xFFFE#16, pc := 0x0103#16, f := 0x00#8 } },
   { bytes := [0xFF#8], pc := 0x0100#16, cost := 4
     start := fun s => { s with sp := 0xFFFE#16, f := 0x00#8 }
     finish := fun s => (({ s with sp := 0xFFFC#16, pc := 0x0038#16, f := 0x00#8 } : State).writeByte 0xFFFC#16 0x01#8).writeByte 0xFFFD#16 0x01#8 },
   { bytes := [0x80#8], pc := 0x0100#16, cost := 1
     start := fun s => { s with a := 0x3A#8, b := 0xC6#8, f := 0x00#8 }
     finish := fun s => { s with a := 0x00#8, pc := 0x0101#16, f := 0xB0#8 } },
   { bytes := [0x81#8], pc := 0x0100#16, cost := 1
     start := fun s => { s with a := 0x0F#8, c := 0x01#8, f := 0x00#8 }
     finish := fun s => { s with a := 0x10#8, pc := 0x0101#16, f := 0x20#8 } },
   { bytes := [0x82#8], pc := 0x0100#16, cost := 1
     start := fun s => { s with a := 0xF0#8, d := 0x10#8, f := 0x00#8 }
     finish := fun s => { s with a := 0x00#8, pc := 0x0101#16, f := 0x90#8 } },
   { bytes := [0x86#8], pc := 0x0100#16, cost := 2
     start := fun s => ({ s with a := 0x01#8, h := 0xC0#8, l := 0x00#8, f := 0x00#8 } : State).writeByte 0xC000#16 0x12#8
     finish := fun s => { s with a := 0x13#8, pc := 0x0101#16, f := 0x00#8 } },
   { bytes := [0xC6#8, 0xFF#8], pc := 0x0100#16, cost := 2
     start := fun s => { s with a := 0x01#8, f := 0x00#8 }
     finish := fun s => { s with a := 0x00#8, pc := 0x0102#16, f := 0xB0#8 } },
   { bytes := [0x8B#8], pc := 0x0100#16, cost := 1
     start := fun s => { s with a := 0xE1#8, e := 0x0F#8, f := 0x10#8 }
     finish := fun s => { s with a := 0xF1#8, pc := 0x0101#16, f := 0x20#8 } }]

theorem test_vectors_0 : vectors0.all Vector.passes = true := by decide +kernel

/-- From ADC A,B to AND d8. -/
def vectors1 : List Vector :=
  [{ bytes := [0x88#8], pc := 0x0100#16, cost := 1
     start := fun s => { s with a := 0xFF#8, b := 0x00#8, f := 0x10#8 }
     finish := fun s => { s with a := 0x00#8, pc := 0x0101#16, f := 0xB0#8 } },
   { bytes := [0x8F#8], pc := 0x0100#16, cost := 1
     start := fun s => { s with a := 0x80#8, f := 0x10#8 }
     finish := fun s => { s with a := 0x01#8, pc := 0x0101#16, f := 0x10#8 } },
   { bytes := [0x8E#8], pc := 0x0100#16, cost := 2
     start := fun s => ({ s with a := 0x0F#8, h := 0xC0#8, l := 0x00#8, f := 0x10#8 } : State).writeByte 0xC000#16 0x00#8
     finish := fun s => { s with a := 0x10#8, pc := 0x0101#16, f := 0x20#8 } },
   { bytes := [0xCE#8, 0x01#8], pc := 0x0100#16, cost := 2
     start := fun s => { s with a := 0x0E#8, f := 0x10#8 }
     finish := fun s => { s with a := 0x10#8, pc := 0x0102#16, f := 0x20#8 } },
   { bytes := [0x93#8], pc := 0x0100#16, cost := 1
     start := fun s => { s with a := 0x3E#8, e := 0x3E#8, f := 0x00#8 }
     finish := fun s => { s with a := 0x00#8, pc := 0x0101#16, f := 0xC0#8 } },
   { bytes := [0x90#8], pc := 0x0100#16, cost := 1
     start := fun s => { s with a := 0x3E#8, b := 0x0F#8, f := 0x00#8 }
     finish := fun s => { s with a := 0x2F#8, pc := 0x0101#16, f := 0x60#8 } },
   { bytes := [0x90#8], pc := 0x0100#16, cost := 1
     start := fun s => { s with a := 0x3E#8, b := 0x40#8, f := 0x00#8 }
     finish := fun s => { s with a := 0xFE#8, pc := 0x0101#16, f := 0x50#8 } },
   { bytes := [0x96#8], pc := 0x0100#16, cost := 2
     start := fun s => ({ s with a := 0x10#8, h := 0xC0#8, l := 0x00#8, f := 0x00#8 } : State).writeByte 0xC000#16 0x01#8
     finish := fun s => { s with a := 0x0F#8, pc := 0x0101#16, f := 0x60#8 } },
   { bytes := [0xD6#8, 0x0F#8], pc := 0x0100#16, cost := 2
     start := fun s => { s with a := 0x3E#8, f := 0x00#8 }
     finish := fun s => { s with a := 0x2F#8, pc := 0x0102#16, f := 0x60#8 } },
   { bytes := [0x9C#8], pc := 0x0100#16, cost := 1
     start := fun s => { s with a := 0x3B#8, h := 0x2A#8, f := 0x10#8 }
     finish := fun s => { s with a := 0x10#8, pc := 0x0101#16, f := 0x40#8 } },
   { bytes := [0x98#8], pc := 0x0100#16, cost := 1
     start := fun s => { s with a := 0x00#8, b := 0xFF#8, f := 0x10#8 }
     finish := fun s => { s with pc := 0x0101#16, f := 0xF0#8 } },
   { bytes := [0x9E#8], pc := 0x0100#16, cost := 2
     start := fun s => ({ s with a := 0x3B#8, h := 0xC0#8, l := 0x00#8, f := 0x10#8 } : State).writeByte 0xC000#16 0x4F#8
     finish := fun s => { s with a := 0xEB#8, pc := 0x0101#16, f := 0x70#8 } },
   { bytes := [0xDE#8, 0x3A#8], pc := 0x0100#16, cost := 2
     start := fun s => { s with a := 0x3B#8, f := 0x10#8 }
     finish := fun s => { s with a := 0x00#8, pc := 0x0102#16, f := 0xC0#8 } },
   { bytes := [0xA5#8], pc := 0x0100#16, cost := 1
     start := fun s => { s with a := 0x5A#8, l := 0x3F#8, f := 0x50#8 }
     finish := fun s => { s with a := 0x1A#8, pc := 0x0101#16, f := 0x20#8 } },
   { bytes := [0xA6#8], pc := 0x0100#16, cost := 2
     start := fun s => ({ s with a := 0x5A#8, h := 0xC0#8, l := 0x00#8, f := 0x00#8 } : State).writeByte 0xC000#16 0x38#8
     finish := fun s => { s with a := 0x18#8, pc := 0x0101#16, f := 0x20#8 } },
   { bytes := [0xE6#8, 0x00#8], pc := 0x0100#16, cost := 2
     start := fun s => { s with a := 0x5A#8, f := 0x10#8 }
     finish := fun s => { s with a := 0x00#8, pc := 0x0102#16, f := 0xA0#8 } }]

theorem test_vectors_1 : vectors1.all Vector.passes = true := by decide +kernel

/-- From XOR A to DEC A. -/
def vectors2 : List Vector :=
  [{ bytes := [0xAF#8], pc := 0x0100#16, cost := 1
     start := fun s => { s with a := 0xFF#8, f := 0x70#8 }
     finish := fun s => { s with a := 0x00#8, pc := 0x0101#16, f := 0x80#8 } },
   { bytes := [0xAE#8], pc := 0x0100#16, cost := 2
     start := fun s => ({ s with a := 0xFF#8, h := 0xC0#8, l := 0x00#8, f := 0x00#8 } : State).writeByte 0xC000#16 0x8A#8
     finish := fun s => { s with a := 0x75#8, pc := 0x0101#16, f := 0x00#8 } },
   { bytes := [0xEE#8, 0x0F#8], pc := 0x0100#16, cost := 2
     start := fun s => { s with a := 0xFF#8, f := 0x00#8 }
     finish := fun s => { s with a := 0xF0#8, pc := 0x0102#16, f := 0x00#8 } },
   { bytes := [0xB7#8], pc := 0x0100#16, cost := 1
     start := fun s => { s with a := 0x00#8, f := 0x30#8 }
     finish := fun s => { s with pc := 0x0101#16, f := 0x80#8 } },
   { bytes := [0xB6#8], pc := 0x0100#16, cost := 2
     start := fun s => ({ s with a := 0x5A#8, h := 0xC0#8, l := 0x00#8, f := 0x00#8 } : State).writeByte 0xC000#16 0x0F#8
     finish := fun s => { s with a := 0x5F#8, pc := 0x0101#16, f := 0x00#8 } },
   { bytes := [0xF6#8, 0x03#8], pc := 0x0100#16, cost := 2
     start := fun s => { s with a := 0x5A#8, f := 0x00#8 }
     finish := fun s => { s with a := 0x5B#8, pc := 0x0102#16, f := 0x00#8 } },
   { bytes := [0xB8#8], pc := 0x0100#16, cost := 1
     start := fun s => { s with a := 0x3C#8, b := 0x2F#8, f := 0x00#8 }
     finish := fun s => { s with pc := 0x0101#16, f := 0x60#8 } },
   { bytes := [0xBF#8], pc := 0x0100#16, cost := 1
     start := fun s => { s with a := 0x3C#8, f := 0x00#8 }
     finish := fun s => { s with pc := 0x0101#16, f := 0xC0#8 } },
   { bytes := [0xBE#8], pc := 0x0100#16, cost := 2
     start := fun s => ({ s with a := 0x3C#8, h := 0xC0#8, l := 0x00#8, f := 0x00#8 } : State).writeByte 0xC000#16 0x40#8
     finish := fun s => { s with pc := 0x0101#16, f := 0x50#8 } },
   { bytes := [0xFE#8, 0x3C#8], pc := 0x0100#16, cost := 2
     start := fun s => { s with a := 0x3C#8, f := 0x00#8 }
     finish := fun s => { s with pc := 0x0102#16, f := 0xC0#8 } },
   { bytes := [0x3C#8], pc := 0x0100#16, cost := 1
     start := fun s => { s with a := 0xFF#8, f := 0x10#8 }
     finish := fun s => { s with a := 0x00#8, pc := 0x0101#16, f := 0xB0#8 } },
   { bytes := [0x04#8], pc := 0x0100#16, cost := 1
     start := fun s => { s with b := 0x0F#8, f := 0x00#8 }
     finish := fun s => { s with b := 0x10#8, pc := 0x0101#16, f := 0x20#8 } },
   { bytes := [0x2C#8], pc := 0x0100#16, cost := 1
     start := fun s => { s with l := 0x50#8, f := 0x40#8 }
     finish := fun s => { s with l := 0x51#8, pc := 0x0101#16, f := 0x00#8 } },
   { bytes := [0x34#8], pc := 0x0100#16, cost := 3
     start := fun s => ({ s with h := 0xC0#8, l := 0x00#8, f := 0x00#8 } : State).writeByte 0xC000#16 0xFF#8
     finish := fun s => ({ s with pc := 0x0101#16, f := 0xA0#8 } : State).writeByte 0xC000#16 0x00#8 },
   { bytes := [0x2D#8], pc := 0x0100#16, cost := 1
     start := fun s => { s with l := 0x01#8, f := 0x00#8 }
     finish := fun s => { s with l := 0x00#8, pc := 0x0101#16, f := 0xC0#8 } },
   { bytes := [0x3D#8], pc := 0x0100#16, cost := 1
     start := fun s => { s with a := 0x00#8, f := 0x10#8 }
     finish := fun s => { s with a := 0xFF#8, pc := 0x0101#16, f := 0x70#8 } }]

theorem test_vectors_2 : vectors2.all Vector.passes = true := by decide +kernel

/-- From DEC C to DEC SP. -/
def vectors3 : List Vector :=
  [{ bytes := [0x0D#8], pc := 0x0100#16, cost := 1
     start := fun s => { s with c := 0x10#8, f := 0x00#8 }
     finish := fun s => { s with c := 0x0F#8, pc := 0x0101#16, f := 0x60#8 } },
   { bytes := [0x35#8], pc := 0x0100#16, cost := 3
     start := fun s => ({ s with h := 0xC0#8, l := 0x00#8, f := 0x10#8 } : State).writeByte 0xC000#16 0x00#8
     finish := fun s => ({ s with pc := 0x0101#16, f := 0x70#8 } : State).writeByte 0xC000#16 0xFF#8 },
   { bytes := [0x09#8], pc := 0x0100#16, cost := 2
     start := fun s => { s with h := 0x8A#8, l := 0x23#8, b := 0x06#8, c := 0x05#8, f := 0x00#8 }
     finish := fun s => { s with h := 0x90#8, l := 0x28#8, pc := 0x0101#16, f := 0x20#8 } },
   { bytes := [0x29#8], pc := 0x0100#16, cost := 2
     start := fun s => { s with h := 0x8A#8, l := 0x23#8, f := 0x00#8 }
     finish := fun s => { s with h := 0x14#8, l := 0x46#8, pc := 0x0101#16, f := 0x30#8 } },
   { bytes := [0x19#8], pc := 0x0100#16, cost := 2
     start := fun s => { s with h := 0x0F#8, l := 0xFF#8, d := 0x00#8, e := 0x01#8, f := 0xC0#8 }
     finish := fun s => { s with h := 0x10#8, l := 0x00#8, pc := 0x0101#16, f := 0xA0#8 } },
   { bytes := [0x39#8], pc := 0x0100#16, cost := 2
     start := fun s => { s with h := 0xFF#8, l := 0xFF#8, sp := 0x0001#16, f := 0x00#8 }
     finish := fun s => { s with h := 0x00#8, l := 0x00#8, pc := 0x0101#16, f := 0x30#8 } },
   { bytes := [0xE8#8, 0x02#8], pc := 0x0100#16, cost := 4
     start := fun s => { s with sp := 0xFFF8#16, f := 0xF0#8 }
     finish := fun s => { s with sp := 0xFFFA#16, pc := 0x0102#16, f := 0x00#8 } },
   { bytes := [0xE8#8, 0x08#8], pc := 0x0100#16, cost := 4
     start := fun s => { s with sp := 0xFFF8#16, f := 0x00#8 }
     finish := fun s => { s with sp := 0x0000#16, pc := 0x0102#16, f := 0x30#8 } },
   { bytes := [0xE8#8, 0xFF#8], pc := 0x0100#16, cost := 4
     start := fun s => { s with sp := 0x0000#16, f := 0x00#8 }
     finish := fun s => { s with sp := 0xFFFF#16, pc := 0x0102#16, f := 0x00#8 } },
   { bytes := [0xE8#8, 0xFF#8], pc := 0x0100#16, cost := 4
     start := fun s => { s with sp := 0x0001#16, f := 0x00#8 }
     finish := fun s => { s with sp := 0x0000#16, pc := 0x0102#16, f := 0x30#8 } },
   { bytes := [0xE8#8, 0x80#8], pc := 0x0100#16, cost := 4
     start := fun s => { s with sp := 0x1000#16, f := 0x00#8 }
     finish := fun s => { s with sp := 0x0F80#16, pc := 0x0102#16, f := 0x00#8 } },
   { bytes := [0x03#8], pc := 0x0100#16, cost := 2
     start := fun s => { s with b := 0xFF#8, c := 0xFF#8, f := 0xB0#8 }
     finish := fun s => { s with b := 0x00#8, c := 0x00#8, pc := 0x0101#16, f := 0xB0#8 } },
   { bytes := [0x33#8], pc := 0x0100#16, cost := 2
     start := fun s => { s with sp := 0xFFFF#16, f := 0x00#8 }
     finish := fun s => { s with sp := 0x0000#16, pc := 0x0101#16, f := 0x00#8 } },
   { bytes := [0x1B#8], pc := 0x0100#16, cost := 2
     start := fun s => { s with d := 0x00#8, e := 0x00#8, f := 0xB0#8 }
     finish := fun s => { s with d := 0xFF#8, e := 0xFF#8, pc := 0x0101#16, f := 0xB0#8 } },
   { bytes := [0x2B#8], pc := 0x0100#16, cost := 2
     start := fun s => { s with h := 0x01#8, l := 0x00#8, f := 0x00#8 }
     finish := fun s => { s with h := 0x00#8, l := 0xFF#8, pc := 0x0101#16, f := 0x00#8 } },
   { bytes := [0x3B#8], pc := 0x0100#16, cost := 2
     start := fun s => { s with sp := 0x0000#16, f := 0x00#8 }
     finish := fun s => { s with sp := 0xFFFF#16, pc := 0x0101#16, f := 0x00#8 } }]

theorem test_vectors_3 : vectors3.all Vector.passes = true := by decide +kernel

/-- From LD A,B to LDH A,(a8). -/
def vectors4 : List Vector :=
  [{ bytes := [0x78#8], pc := 0x0100#16, cost := 1
     start := fun s => { s with a := 0x00#8, b := 0x5C#8, f := 0xB0#8 }
     finish := fun s => { s with a := 0x5C#8, pc := 0x0101#16, f := 0xB0#8 } },
   { bytes := [0x40#8], pc := 0x0100#16, cost := 1
     start := fun s => { s with b := 0x5C#8, f := 0x00#8 }
     finish := fun s => { s with pc := 0x0101#16, f := 0x00#8 } },
   { bytes := [0x0E#8, 0x7F#8], pc := 0x0100#16, cost := 2
     start := fun s => { s with f := 0x00#8 }
     finish := fun s => { s with c := 0x7F#8, pc := 0x0102#16, f := 0x00#8 } },
   { bytes := [0x3E#8, 0x00#8], pc := 0x0100#16, cost := 2
     start := fun s => { s with a := 0xAA#8, f := 0x00#8 }
     finish := fun s => { s with a := 0x00#8, pc := 0x0102#16, f := 0x00#8 } },
   { bytes := [0x46#8], pc := 0x0100#16, cost := 2
     start := fun s => ({ s with h := 0xC0#8, l := 0x00#8, f := 0x00#8 } : State).writeByte 0xC000#16 0x99#8
     finish := fun s => { s with b := 0x99#8, pc := 0x0101#16, f := 0x00#8 } },
   { bytes := [0x66#8], pc := 0x0100#16, cost := 2
     start := fun s => ({ s with h := 0xC0#8, l := 0x00#8, f := 0x00#8 } : State).writeByte 0xC000#16 0x12#8
     finish := fun s => { s with h := 0x12#8, pc := 0x0101#16, f := 0x00#8 } },
   { bytes := [0x70#8], pc := 0x0100#16, cost := 2
     start := fun s => { s with b := 0x55#8, h := 0xC0#8, l := 0x00#8, f := 0x00#8 }
     finish := fun s => ({ s with pc := 0x0101#16, f := 0x00#8 } : State).writeByte 0xC000#16 0x55#8 },
   { bytes := [0x75#8], pc := 0x0100#16, cost := 2
     start := fun s => { s with h := 0xC0#8, l := 0x00#8, f := 0x00#8 }
     finish := fun s => { s with pc := 0x0101#16, f := 0x00#8 } },
   { bytes := [0x36#8, 0xA5#8], pc := 0x0100#16, cost := 3
     start := fun s => { s with h := 0xC0#8, l := 0x00#8, f := 0x00#8 }
     finish := fun s => ({ s with pc := 0x0102#16, f := 0x00#8 } : State).writeByte 0xC000#16 0xA5#8 },
   { bytes := [0x0A#8], pc := 0x0100#16, cost := 2
     start := fun s => ({ s with b := 0xC1#8, c := 0x23#8, f := 0x00#8 } : State).writeByte 0xC123#16 0x42#8
     finish := fun s => { s with a := 0x42#8, pc := 0x0101#16, f := 0x00#8 } },
   { bytes := [0x1A#8], pc := 0x0100#16, cost := 2
     start := fun s => ({ s with d := 0xC1#8, e := 0x24#8, f := 0x00#8 } : State).writeByte 0xC124#16 0x43#8
     finish := fun s => { s with a := 0x43#8, pc := 0x0101#16, f := 0x00#8 } },
   { bytes := [0x02#8], pc := 0x0100#16, cost := 2
     start := fun s => { s with a := 0x77#8, b := 0xC2#8, c := 0x00#8, f := 0x00#8 }
     finish := fun s => ({ s with pc := 0x0101#16, f := 0x00#8 } : State).writeByte 0xC200#16 0x77#8 },
   { bytes := [0x12#8], pc := 0x0100#16, cost := 2
     start := fun s => { s with a := 0x78#8, d := 0xC2#8, e := 0x01#8, f := 0x00#8 }
     finish := fun s => ({ s with pc := 0x0101#16, f := 0x00#8 } : State).writeByte 0xC201#16 0x78#8 },
   { bytes := [0xFA#8, 0x00#8, 0xC3#8], pc := 0x0100#16, cost := 4
     start := fun s => ({ s with f := 0x00#8 } : State).writeByte 0xC300#16 0x5E#8
     finish := fun s => { s with a := 0x5E#8, pc := 0x0103#16, f := 0x00#8 } },
   { bytes := [0xEA#8, 0x01#8, 0xC3#8], pc := 0x0100#16, cost := 4
     start := fun s => { s with a := 0x6F#8, f := 0x00#8 }
     finish := fun s => ({ s with pc := 0x0103#16, f := 0x00#8 } : State).writeByte 0xC301#16 0x6F#8 },
   { bytes := [0xF0#8, 0x80#8], pc := 0x0100#16, cost := 3
     start := fun s => ({ s with f := 0x00#8 } : State).writeByte 0xFF80#16 0x3D#8
     finish := fun s => { s with a := 0x3D#8, pc := 0x0102#16, f := 0x00#8 } }]

theorem test_vectors_4 : vectors4.all Vector.passes = true := by decide +kernel

/-- From LDH (a8),A to PUSH BC. -/
def vectors5 : List Vector :=
  [{ bytes := [0xE0#8, 0xFF#8], pc := 0x0100#16, cost := 3
     start := fun s => { s with a := 0x1F#8, f := 0x00#8 }
     finish := fun s => ({ s with pc := 0x0102#16, f := 0x00#8 } : State).writeByte 0xFFFF#16 0x1F#8 },
   { bytes := [0xF2#8], pc := 0x0100#16, cost := 2
     start := fun s => ({ s with c := 0x81#8, f := 0x00#8 } : State).writeByte 0xFF81#16 0x2E#8
     finish := fun s => { s with a := 0x2E#8, pc := 0x0101#16, f := 0x00#8 } },
   { bytes := [0xE2#8], pc := 0x0100#16, cost := 2
     start := fun s => { s with a := 0x09#8, c := 0x00#8, f := 0x00#8 }
     finish := fun s => ({ s with pc := 0x0101#16, f := 0x00#8 } : State).writeByte 0xFF00#16 0x09#8 },
   { bytes := [0x22#8], pc := 0x0100#16, cost := 2
     start := fun s => { s with a := 0x56#8, h := 0xFF#8, l := 0xFF#8, f := 0x00#8 }
     finish := fun s => ({ s with h := 0x00#8, l := 0x00#8, pc := 0x0101#16, f := 0x00#8 } : State).writeByte 0xFFFF#16 0x56#8 },
   { bytes := [0x32#8], pc := 0x0100#16, cost := 2
     start := fun s => { s with a := 0x57#8, h := 0x00#8, l := 0x00#8, f := 0x00#8 }
     finish := fun s => ({ s with h := 0xFF#8, l := 0xFF#8, pc := 0x0101#16, f := 0x00#8 } : State).writeByte 0x0000#16 0x57#8 },
   { bytes := [0x2A#8], pc := 0x0100#16, cost := 2
     start := fun s => ({ s with h := 0xC0#8, l := 0x00#8, f := 0x00#8 } : State).writeByte 0xC000#16 0x61#8
     finish := fun s => { s with a := 0x61#8, l := 0x01#8, pc := 0x0101#16, f := 0x00#8 } },
   { bytes := [0x3A#8], pc := 0x0100#16, cost := 2
     start := fun s => ({ s with h := 0xC0#8, l := 0x00#8, f := 0x00#8 } : State).writeByte 0xC000#16 0x62#8
     finish := fun s => { s with a := 0x62#8, h := 0xBF#8, l := 0xFF#8, pc := 0x0101#16, f := 0x00#8 } },
   { bytes := [0x01#8, 0x34#8, 0x12#8], pc := 0x0100#16, cost := 3
     start := fun s => { s with f := 0x00#8 }
     finish := fun s => { s with b := 0x12#8, c := 0x34#8, pc := 0x0103#16, f := 0x00#8 } },
   { bytes := [0x31#8, 0xFE#8, 0xFF#8], pc := 0x0100#16, cost := 3
     start := fun s => { s with sp := 0x0000#16, f := 0x00#8 }
     finish := fun s => { s with sp := 0xFFFE#16, pc := 0x0103#16, f := 0x00#8 } },
   { bytes := [0x08#8, 0x00#8, 0xC1#8], pc := 0x0100#16, cost := 5
     start := fun s => { s with sp := 0xFFF8#16, f := 0x00#8 }
     finish := fun s => (({ s with pc := 0x0103#16, f := 0x00#8 } : State).writeByte 0xC100#16 0xF8#8).writeByte 0xC101#16 0xFF#8 },
   { bytes := [0x08#8, 0xFF#8, 0xFF#8], pc := 0x0100#16, cost := 5
     start := fun s => { s with sp := 0xABCD#16, f := 0x00#8 }
     finish := fun s => (({ s with pc := 0x0103#16, f := 0x00#8 } : State).writeByte 0x0000#16 0xAB#8).writeByte 0xFFFF#16 0xCD#8 },
   { bytes := [0xF9#8], pc := 0x0100#16, cost := 2
     start := fun s => { s with h := 0xC0#8, l := 0xDE#8, sp := 0xFFFE#16, f := 0x00#8 }
     finish := fun s => { s with sp := 0xC0DE#16, pc := 0x0101#16, f := 0x00#8 } },
   { bytes := [0xF8#8, 0x02#8], pc := 0x0100#16, cost := 3
     start := fun s => { s with sp := 0xFFF8#16, f := 0x00#8 }
     finish := fun s => { s with h := 0xFF#8, l := 0xFA#8, pc := 0x0102#16, f := 0x00#8 } },
   { bytes := [0xF8#8, 0x08#8], pc := 0x0100#16, cost := 3
     start := fun s => { s with sp := 0xFFF8#16, f := 0xC0#8 }
     finish := fun s => { s with pc := 0x0102#16, f := 0x30#8 } },
   { bytes := [0xF8#8, 0xFE#8], pc := 0x0100#16, cost := 3
     start := fun s => { s with sp := 0x0001#16, f := 0x00#8 }
     finish := fun s => { s with h := 0xFF#8, l := 0xFF#8, pc := 0x0102#16, f := 0x00#8 } },
   { bytes := [0xC5#8], pc := 0x0100#16, cost := 4
     start := fun s => { s with b := 0x12#8, c := 0x34#8, sp := 0xFFFE#16, f := 0x00#8 }
     finish := fun s => (({ s with sp := 0xFFFC#16, pc := 0x0101#16, f := 0x00#8 } : State).writeByte 0xFFFC#16 0x34#8).writeByte 0xFFFD#16 0x12#8 }]

theorem test_vectors_5 : vectors5.all Vector.passes = true := by decide +kernel

/-- From PUSH AF to JR e8. -/
def vectors6 : List Vector :=
  [{ bytes := [0xF5#8], pc := 0x0100#16, cost := 4
     start := fun s => { s with a := 0x01#8, sp := 0xFFFE#16, f := 0xB0#8 }
     finish := fun s => (({ s with sp := 0xFFFC#16, pc := 0x0101#16, f := 0xB0#8 } : State).writeByte 0xFFFC#16 0xB0#8).writeByte 0xFFFD#16 0x01#8 },
   { bytes := [0xE5#8], pc := 0x0100#16, cost := 4
     start := fun s => { s with h := 0xBE#8, l := 0xEF#8, sp := 0x0001#16, f := 0x00#8 }
     finish := fun s => (({ s with sp := 0xFFFF#16, pc := 0x0101#16, f := 0x00#8 } : State).writeByte 0x0000#16 0xBE#8).writeByte 0xFFFF#16 0xEF#8 },
   { bytes := [0xD1#8], pc := 0x0100#16, cost := 3
     start := fun s => (({ s with sp := 0xFFFC#16, f := 0x00#8 } : State).writeByte 0xFFFC#16 0x34#8).writeByte 0xFFFD#16 0x12#8
     finish := fun s => { s with d := 0x12#8, e := 0x34#8, sp := 0xFFFE#16, pc := 0x0101#16, f := 0x00#8 } },
   { bytes := [0xF1#8], pc := 0x0100#16, cost := 3
     start := fun s => (({ s with sp := 0xFFFC#16, f := 0x00#8 } : State).writeByte 0xFFFC#16 0xFF#8).writeByte 0xFFFD#16 0x00#8
     finish := fun s => { s with sp := 0xFFFE#16, pc := 0x0101#16, f := 0xF0#8 } },
   { bytes := [0xE1#8], pc := 0x0100#16, cost := 3
     start := fun s => (({ s with sp := 0xFFFF#16, f := 0x00#8 } : State).writeByte 0x0000#16 0x22#8).writeByte 0xFFFF#16 0x11#8
     finish := fun s => { s with h := 0x22#8, l := 0x11#8, sp := 0x0001#16, pc := 0x0101#16, f := 0x00#8 } },
   { bytes := [0xC3#8, 0x00#8, 0x02#8], pc := 0x0100#16, cost := 4
     start := fun s => { s with f := 0x00#8 }
     finish := fun s => { s with pc := 0x0200#16, f := 0x00#8 } },
   { bytes := [0xC2#8, 0x00#8, 0x02#8], pc := 0x0100#16, cost := 4
     start := fun s => { s with f := 0x00#8 }
     finish := fun s => { s with pc := 0x0200#16, f := 0x00#8 } },
   { bytes := [0xC2#8, 0x00#8, 0x02#8], pc := 0x0100#16, cost := 3
     start := fun s => { s with f := 0x80#8 }
     finish := fun s => { s with pc := 0x0103#16, f := 0x80#8 } },
   { bytes := [0xCA#8, 0x00#8, 0x02#8], pc := 0x0100#16, cost := 4
     start := fun s => { s with f := 0x80#8 }
     finish := fun s => { s with pc := 0x0200#16, f := 0x80#8 } },
   { bytes := [0xD2#8, 0x00#8, 0x02#8], pc := 0x0100#16, cost := 3
     start := fun s => { s with f := 0x10#8 }
     finish := fun s => { s with pc := 0x0103#16, f := 0x10#8 } },
   { bytes := [0xDA#8, 0x00#8, 0x02#8], pc := 0x0100#16, cost := 4
     start := fun s => { s with f := 0x10#8 }
     finish := fun s => { s with pc := 0x0200#16, f := 0x10#8 } },
   { bytes := [0xE9#8], pc := 0x0100#16, cost := 1
     start := fun s => { s with h := 0x40#8, l := 0x00#8, f := 0x00#8 }
     finish := fun s => { s with pc := 0x4000#16, f := 0x00#8 } },
   { bytes := [0x18#8, 0x05#8], pc := 0x0100#16, cost := 3
     start := fun s => { s with f := 0x00#8 }
     finish := fun s => { s with pc := 0x0107#16, f := 0x00#8 } },
   { bytes := [0x18#8, 0xFE#8], pc := 0x0100#16, cost := 3
     start := fun s => { s with f := 0x00#8 }
     finish := fun s => { s with pc := 0x0100#16, f := 0x00#8 } },
   { bytes := [0x18#8, 0x80#8], pc := 0x0100#16, cost := 3
     start := fun s => { s with f := 0x00#8 }
     finish := fun s => { s with pc := 0x0082#16, f := 0x00#8 } },
   { bytes := [0x18#8, 0x7F#8], pc := 0xFFF0#16, cost := 3
     start := fun s => { s with f := 0x00#8 }
     finish := fun s => { s with pc := 0x0071#16, f := 0x00#8 } }]

theorem test_vectors_6 : vectors6.all Vector.passes = true := by decide +kernel

/-- From JR NZ,e8 to RET C. -/
def vectors7 : List Vector :=
  [{ bytes := [0x20#8, 0x10#8], pc := 0x0100#16, cost := 3
     start := fun s => { s with f := 0x00#8 }
     finish := fun s => { s with pc := 0x0112#16, f := 0x00#8 } },
   { bytes := [0x20#8, 0x10#8], pc := 0x0100#16, cost := 2
     start := fun s => { s with f := 0x80#8 }
     finish := fun s => { s with pc := 0x0102#16, f := 0x80#8 } },
   { bytes := [0x28#8, 0xFC#8], pc := 0x0100#16, cost := 3
     start := fun s => { s with f := 0x80#8 }
     finish := fun s => { s with pc := 0x00FE#16, f := 0x80#8 } },
   { bytes := [0x30#8, 0x02#8], pc := 0x0100#16, cost := 2
     start := fun s => { s with f := 0x10#8 }
     finish := fun s => { s with pc := 0x0102#16, f := 0x10#8 } },
   { bytes := [0x38#8, 0x02#8], pc := 0x0100#16, cost := 3
     start := fun s => { s with f := 0x10#8 }
     finish := fun s => { s with pc := 0x0104#16, f := 0x10#8 } },
   { bytes := [0xCD#8, 0x00#8, 0x20#8], pc := 0x0100#16, cost := 6
     start := fun s => { s with sp := 0xFFFE#16, f := 0x00#8 }
     finish := fun s => (({ s with sp := 0xFFFC#16, pc := 0x2000#16, f := 0x00#8 } : State).writeByte 0xFFFC#16 0x03#8).writeByte 0xFFFD#16 0x01#8 },
   { bytes := [0xCD#8, 0x00#8, 0x20#8], pc := 0x0100#16, cost := 6
     start := fun s => { s with sp := 0x0001#16, f := 0x00#8 }
     finish := fun s => (({ s with sp := 0xFFFF#16, pc := 0x2000#16, f := 0x00#8 } : State).writeByte 0x0000#16 0x01#8).writeByte 0xFFFF#16 0x03#8 },
   { bytes := [0xC4#8, 0x00#8, 0x20#8], pc := 0x0100#16, cost := 3
     start := fun s => { s with sp := 0xFFFE#16, f := 0x80#8 }
     finish := fun s => { s with pc := 0x0103#16, f := 0x80#8 } },
   { bytes := [0xCC#8, 0x00#8, 0x20#8], pc := 0x0100#16, cost := 6
     start := fun s => { s with sp := 0xFFFE#16, f := 0x80#8 }
     finish := fun s => (({ s with sp := 0xFFFC#16, pc := 0x2000#16, f := 0x80#8 } : State).writeByte 0xFFFC#16 0x03#8).writeByte 0xFFFD#16 0x01#8 },
   { bytes := [0xD4#8, 0x00#8, 0x20#8], pc := 0x0100#16, cost := 6
     start := fun s => { s with sp := 0xFFFE#16, f := 0x00#8 }
     finish := fun s => (({ s with sp := 0xFFFC#16, pc := 0x2000#16, f := 0x00#8 } : State).writeByte 0xFFFC#16 0x03#8).writeByte 0xFFFD#16 0x01#8 },
   { bytes := [0xDC#8, 0x00#8, 0x20#8], pc := 0x0100#16, cost := 3
     start := fun s => { s with sp := 0xFFFE#16, f := 0x00#8 }
     finish := fun s => { s with pc := 0x0103#16, f := 0x00#8 } },
   { bytes := [0xC9#8], pc := 0x0100#16, cost := 4
     start := fun s => (({ s with sp := 0xFFFC#16, f := 0x00#8 } : State).writeByte 0xFFFC#16 0x03#8).writeByte 0xFFFD#16 0x01#8
     finish := fun s => { s with sp := 0xFFFE#16, pc := 0x0103#16, f := 0x00#8 } },
   { bytes := [0xC0#8], pc := 0x0100#16, cost := 5
     start := fun s => (({ s with sp := 0xFFFC#16, f := 0x00#8 } : State).writeByte 0xFFFC#16 0x03#8).writeByte 0xFFFD#16 0x01#8
     finish := fun s => { s with sp := 0xFFFE#16, pc := 0x0103#16, f := 0x00#8 } },
   { bytes := [0xC8#8], pc := 0x0100#16, cost := 2
     start := fun s => (({ s with sp := 0xFFFC#16, f := 0x00#8 } : State).writeByte 0xFFFC#16 0x03#8).writeByte 0xFFFD#16 0x01#8
     finish := fun s => { s with pc := 0x0101#16, f := 0x00#8 } },
   { bytes := [0xD0#8], pc := 0x0100#16, cost := 2
     start := fun s => (({ s with sp := 0xFFFC#16, f := 0x10#8 } : State).writeByte 0xFFFC#16 0x03#8).writeByte 0xFFFD#16 0x01#8
     finish := fun s => { s with pc := 0x0101#16, f := 0x10#8 } },
   { bytes := [0xD8#8], pc := 0x0100#16, cost := 5
     start := fun s => (({ s with sp := 0xFFFC#16, f := 0x10#8 } : State).writeByte 0xFFFC#16 0x03#8).writeByte 0xFFFD#16 0x01#8
     finish := fun s => { s with sp := 0xFFFE#16, pc := 0x0103#16, f := 0x10#8 } }]

theorem test_vectors_7 : vectors7.all Vector.passes = true := by decide +kernel

/-- From RETI to RRA. -/
def vectors8 : List Vector :=
  [{ bytes := [0xD9#8], pc := 0x0100#16, cost := 4
     start := fun s => (({ s with sp := 0xFFFC#16, ime := false, f := 0x00#8 } : State).writeByte 0xFFFC#16 0x50#8).writeByte 0xFFFD#16 0x01#8
     finish := fun s => { s with sp := 0xFFFE#16, pc := 0x0150#16, ime := true, f := 0x00#8 } },
   { bytes := [0xC7#8], pc := 0x0100#16, cost := 4
     start := fun s => { s with sp := 0xFFFE#16, f := 0x00#8 }
     finish := fun s => (({ s with sp := 0xFFFC#16, pc := 0x0000#16, f := 0x00#8 } : State).writeByte 0xFFFC#16 0x01#8).writeByte 0xFFFD#16 0x01#8 },
   { bytes := [0xCF#8], pc := 0x0100#16, cost := 4
     start := fun s => { s with sp := 0xFFFE#16, f := 0x00#8 }
     finish := fun s => (({ s with sp := 0xFFFC#16, pc := 0x0008#16, f := 0x00#8 } : State).writeByte 0xFFFC#16 0x01#8).writeByte 0xFFFD#16 0x01#8 },
   { bytes := [0xD7#8], pc := 0x0100#16, cost := 4
     start := fun s => { s with sp := 0xFFFE#16, f := 0x00#8 }
     finish := fun s => (({ s with sp := 0xFFFC#16, pc := 0x0010#16, f := 0x00#8 } : State).writeByte 0xFFFC#16 0x01#8).writeByte 0xFFFD#16 0x01#8 },
   { bytes := [0xDF#8], pc := 0x0100#16, cost := 4
     start := fun s => { s with sp := 0xFFFE#16, f := 0x00#8 }
     finish := fun s => (({ s with sp := 0xFFFC#16, pc := 0x0018#16, f := 0x00#8 } : State).writeByte 0xFFFC#16 0x01#8).writeByte 0xFFFD#16 0x01#8 },
   { bytes := [0xE7#8], pc := 0x0100#16, cost := 4
     start := fun s => { s with sp := 0xFFFE#16, f := 0x00#8 }
     finish := fun s => (({ s with sp := 0xFFFC#16, pc := 0x0020#16, f := 0x00#8 } : State).writeByte 0xFFFC#16 0x01#8).writeByte 0xFFFD#16 0x01#8 },
   { bytes := [0xEF#8], pc := 0x0100#16, cost := 4
     start := fun s => { s with sp := 0xFFFE#16, f := 0x00#8 }
     finish := fun s => (({ s with sp := 0xFFFC#16, pc := 0x0028#16, f := 0x00#8 } : State).writeByte 0xFFFC#16 0x01#8).writeByte 0xFFFD#16 0x01#8 },
   { bytes := [0xF7#8], pc := 0x0100#16, cost := 4
     start := fun s => { s with sp := 0xFFFE#16, f := 0x00#8 }
     finish := fun s => (({ s with sp := 0xFFFC#16, pc := 0x0030#16, f := 0x00#8 } : State).writeByte 0xFFFC#16 0x01#8).writeByte 0xFFFD#16 0x01#8 },
   { bytes := [0xFF#8], pc := 0x0100#16, cost := 4
     start := fun s => { s with sp := 0xFFFE#16, f := 0x00#8 }
     finish := fun s => (({ s with sp := 0xFFFC#16, pc := 0x0038#16, f := 0x00#8 } : State).writeByte 0xFFFC#16 0x01#8).writeByte 0xFFFD#16 0x01#8 },
   { bytes := [0x07#8], pc := 0x0100#16, cost := 1
     start := fun s => { s with a := 0x85#8, f := 0x00#8 }
     finish := fun s => { s with a := 0x0B#8, pc := 0x0101#16, f := 0x10#8 } },
   { bytes := [0x07#8], pc := 0x0100#16, cost := 1
     start := fun s => { s with a := 0x00#8, f := 0x80#8 }
     finish := fun s => { s with pc := 0x0101#16, f := 0x00#8 } },
   { bytes := [0x0F#8], pc := 0x0100#16, cost := 1
     start := fun s => { s with a := 0x01#8, f := 0x00#8 }
     finish := fun s => { s with a := 0x80#8, pc := 0x0101#16, f := 0x10#8 } },
   { bytes := [0x17#8], pc := 0x0100#16, cost := 1
     start := fun s => { s with a := 0x80#8, f := 0x00#8 }
     finish := fun s => { s with a := 0x00#8, pc := 0x0101#16, f := 0x10#8 } },
   { bytes := [0x17#8], pc := 0x0100#16, cost := 1
     start := fun s => { s with a := 0x95#8, f := 0x10#8 }
     finish := fun s => { s with a := 0x2B#8, pc := 0x0101#16, f := 0x10#8 } },
   { bytes := [0x1F#8], pc := 0x0100#16, cost := 1
     start := fun s => { s with a := 0x01#8, f := 0x00#8 }
     finish := fun s => { s with a := 0x00#8, pc := 0x0101#16, f := 0x10#8 } },
   { bytes := [0x1F#8], pc := 0x0100#16, cost := 1
     start := fun s => { s with a := 0x00#8, f := 0x10#8 }
     finish := fun s => { s with a := 0x80#8, pc := 0x0101#16, f := 0x00#8 } }]

theorem test_vectors_8 : vectors8.all Vector.passes = true := by decide +kernel

/-- From RLC B to SRA B. -/
def vectors9 : List Vector :=
  [{ bytes := [0xCB#8, 0x00#8], pc := 0x0100#16, cost := 2
     start := fun s => { s with b := 0x85#8, f := 0x00#8 }
     finish := fun s => { s with b := 0x0B#8, pc := 0x0102#16, f := 0x10#8 } },
   { bytes := [0xCB#8, 0x07#8], pc := 0x0100#16, cost := 2
     start := fun s => { s with a := 0x00#8, f := 0x00#8 }
     finish := fun s => { s with pc := 0x0102#16, f := 0x80#8 } },
   { bytes := [0xCB#8, 0x06#8], pc := 0x0100#16, cost := 4
     start := fun s => ({ s with h := 0xC0#8, l := 0x00#8, f := 0x00#8 } : State).writeByte 0xC000#16 0x80#8
     finish := fun s => ({ s with pc := 0x0102#16, f := 0x10#8 } : State).writeByte 0xC000#16 0x01#8 },
   { bytes := [0xCB#8, 0x09#8], pc := 0x0100#16, cost := 2
     start := fun s => { s with c := 0x01#8, f := 0x00#8 }
     finish := fun s => { s with c := 0x80#8, pc := 0x0102#16, f := 0x10#8 } },
   { bytes := [0xCB#8, 0x0E#8], pc := 0x0100#16, cost := 4
     start := fun s => ({ s with h := 0xC0#8, l := 0x00#8, f := 0x10#8 } : State).writeByte 0xC000#16 0x00#8
     finish := fun s => { s with pc := 0x0102#16, f := 0x80#8 } },
   { bytes := [0xCB#8, 0x11#8], pc := 0x0100#16, cost := 2
     start := fun s => { s with c := 0x80#8, f := 0x00#8 }
     finish := fun s => { s with c := 0x00#8, pc := 0x0102#16, f := 0x90#8 } },
   { bytes := [0xCB#8, 0x17#8], pc := 0x0100#16, cost := 2
     start := fun s => { s with a := 0x00#8, f := 0x10#8 }
     finish := fun s => { s with a := 0x01#8, pc := 0x0102#16, f := 0x00#8 } },
   { bytes := [0xCB#8, 0x16#8], pc := 0x0100#16, cost := 4
     start := fun s => ({ s with h := 0xC0#8, l := 0x00#8, f := 0x00#8 } : State).writeByte 0xC000#16 0x11#8
     finish := fun s => ({ s with pc := 0x0102#16, f := 0x00#8 } : State).writeByte 0xC000#16 0x22#8 },
   { bytes := [0xCB#8, 0x1F#8], pc := 0x0100#16, cost := 2
     start := fun s => { s with a := 0x01#8, f := 0x00#8 }
     finish := fun s => { s with a := 0x00#8, pc := 0x0102#16, f := 0x90#8 } },
   { bytes := [0xCB#8, 0x18#8], pc := 0x0100#16, cost := 2
     start := fun s => { s with b := 0x8A#8, f := 0x10#8 }
     finish := fun s => { s with b := 0xC5#8, pc := 0x0102#16, f := 0x00#8 } },
   { bytes := [0xCB#8, 0x1E#8], pc := 0x0100#16, cost := 4
     start := fun s => ({ s with h := 0xC0#8, l := 0x00#8, f := 0x00#8 } : State).writeByte 0xC000#16 0x8A#8
     finish := fun s => ({ s with pc := 0x0102#16, f := 0x00#8 } : State).writeByte 0xC000#16 0x45#8 },
   { bytes := [0xCB#8, 0x22#8], pc := 0x0100#16, cost := 2
     start := fun s => { s with d := 0x80#8, f := 0x00#8 }
     finish := fun s => { s with d := 0x00#8, pc := 0x0102#16, f := 0x90#8 } },
   { bytes := [0xCB#8, 0x27#8], pc := 0x0100#16, cost := 2
     start := fun s => { s with a := 0xFF#8, f := 0x00#8 }
     finish := fun s => { s with a := 0xFE#8, pc := 0x0102#16, f := 0x10#8 } },
   { bytes := [0xCB#8, 0x26#8], pc := 0x0100#16, cost := 4
     start := fun s => ({ s with h := 0xC0#8, l := 0x00#8, f := 0x10#8 } : State).writeByte 0xC000#16 0x7F#8
     finish := fun s => ({ s with pc := 0x0102#16, f := 0x00#8 } : State).writeByte 0xC000#16 0xFE#8 },
   { bytes := [0xCB#8, 0x2F#8], pc := 0x0100#16, cost := 2
     start := fun s => { s with a := 0x8A#8, f := 0x00#8 }
     finish := fun s => { s with a := 0xC5#8, pc := 0x0102#16, f := 0x00#8 } },
   { bytes := [0xCB#8, 0x28#8], pc := 0x0100#16, cost := 2
     start := fun s => { s with b := 0x01#8, f := 0x00#8 }
     finish := fun s => { s with b := 0x00#8, pc := 0x0102#16, f := 0x90#8 } }]

theorem test_vectors_9 : vectors9.all Vector.passes = true := by decide +kernel

/-- From SRA (HL) to RES 3,(HL). -/
def vectors10 : List Vector :=
  [{ bytes := [0xCB#8, 0x2E#8], pc := 0x0100#16, cost := 4
     start := fun s => ({ s with h := 0xC0#8, l := 0x00#8, f := 0x00#8 } : State).writeByte 0xC000#16 0x01#8
     finish := fun s => ({ s with pc := 0x0102#16, f := 0x90#8 } : State).writeByte 0xC000#16 0x00#8 },
   { bytes := [0xCB#8, 0x37#8], pc := 0x0100#16, cost := 2
     start := fun s => { s with a := 0x00#8, f := 0x10#8 }
     finish := fun s => { s with pc := 0x0102#16, f := 0x80#8 } },
   { bytes := [0xCB#8, 0x30#8], pc := 0x0100#16, cost := 2
     start := fun s => { s with b := 0xF0#8, f := 0x10#8 }
     finish := fun s => { s with b := 0x0F#8, pc := 0x0102#16, f := 0x00#8 } },
   { bytes := [0xCB#8, 0x36#8], pc := 0x0100#16, cost := 4
     start := fun s => ({ s with h := 0xC0#8, l := 0x00#8, f := 0x00#8 } : State).writeByte 0xC000#16 0xAB#8
     finish := fun s => ({ s with pc := 0x0102#16, f := 0x00#8 } : State).writeByte 0xC000#16 0xBA#8 },
   { bytes := [0xCB#8, 0x3F#8], pc := 0x0100#16, cost := 2
     start := fun s => { s with a := 0x01#8, f := 0x00#8 }
     finish := fun s => { s with a := 0x00#8, pc := 0x0102#16, f := 0x90#8 } },
   { bytes := [0xCB#8, 0x38#8], pc := 0x0100#16, cost := 2
     start := fun s => { s with b := 0xFF#8, f := 0x00#8 }
     finish := fun s => { s with b := 0x7F#8, pc := 0x0102#16, f := 0x10#8 } },
   { bytes := [0xCB#8, 0x3E#8], pc := 0x0100#16, cost := 4
     start := fun s => ({ s with h := 0xC0#8, l := 0x00#8, f := 0x00#8 } : State).writeByte 0xC000#16 0xFF#8
     finish := fun s => ({ s with pc := 0x0102#16, f := 0x10#8 } : State).writeByte 0xC000#16 0x7F#8 },
   { bytes := [0xCB#8, 0x7F#8], pc := 0x0100#16, cost := 2
     start := fun s => { s with a := 0x80#8, f := 0x00#8 }
     finish := fun s => { s with pc := 0x0102#16, f := 0x20#8 } },
   { bytes := [0xCB#8, 0x7F#8], pc := 0x0100#16, cost := 2
     start := fun s => { s with a := 0x7F#8, f := 0x00#8 }
     finish := fun s => { s with pc := 0x0102#16, f := 0xA0#8 } },
   { bytes := [0xCB#8, 0x40#8], pc := 0x0100#16, cost := 2
     start := fun s => { s with b := 0x01#8, f := 0x50#8 }
     finish := fun s => { s with pc := 0x0102#16, f := 0x30#8 } },
   { bytes := [0xCB#8, 0x5A#8], pc := 0x0100#16, cost := 2
     start := fun s => { s with d := 0xF7#8, f := 0x10#8 }
     finish := fun s => { s with pc := 0x0102#16, f := 0xB0#8 } },
   { bytes := [0xCB#8, 0x46#8], pc := 0x0100#16, cost := 3
     start := fun s => ({ s with h := 0xC0#8, l := 0x00#8, f := 0x00#8 } : State).writeByte 0xC000#16 0xFE#8
     finish := fun s => { s with pc := 0x0102#16, f := 0xA0#8 } },
   { bytes := [0xCB#8, 0x7E#8], pc := 0x0100#16, cost := 3
     start := fun s => ({ s with h := 0xC0#8, l := 0x00#8, f := 0x50#8 } : State).writeByte 0xC000#16 0x80#8
     finish := fun s => { s with pc := 0x0102#16, f := 0x30#8 } },
   { bytes := [0xCB#8, 0x87#8], pc := 0x0100#16, cost := 2
     start := fun s => { s with a := 0xFF#8, f := 0xF0#8 }
     finish := fun s => { s with a := 0xFE#8, pc := 0x0102#16, f := 0xF0#8 } },
   { bytes := [0xCB#8, 0xB8#8], pc := 0x0100#16, cost := 2
     start := fun s => { s with b := 0x7F#8, f := 0x00#8 }
     finish := fun s => { s with pc := 0x0102#16, f := 0x00#8 } },
   { bytes := [0xCB#8, 0x9E#8], pc := 0x0100#16, cost := 4
     start := fun s => ({ s with h := 0xC0#8, l := 0x00#8, f := 0x00#8 } : State).writeByte 0xC000#16 0xFF#8
     finish := fun s => ({ s with pc := 0x0102#16, f := 0x00#8 } : State).writeByte 0xC000#16 0xF7#8 }]

theorem test_vectors_10 : vectors10.all Vector.passes = true := by decide +kernel

/-- From SET 0,A to DAA. -/
def vectors11 : List Vector :=
  [{ bytes := [0xCB#8, 0xC7#8], pc := 0x0100#16, cost := 2
     start := fun s => { s with a := 0x00#8, f := 0x80#8 }
     finish := fun s => { s with a := 0x01#8, pc := 0x0102#16, f := 0x80#8 } },
   { bytes := [0xCB#8, 0xFF#8], pc := 0x0100#16, cost := 2
     start := fun s => { s with a := 0x80#8, f := 0x00#8 }
     finish := fun s => { s with pc := 0x0102#16, f := 0x00#8 } },
   { bytes := [0xCB#8, 0xFE#8], pc := 0x0100#16, cost := 4
     start := fun s => ({ s with h := 0xC0#8, l := 0x00#8, f := 0x00#8 } : State).writeByte 0xC000#16 0x01#8
     finish := fun s => ({ s with pc := 0x0102#16, f := 0x00#8 } : State).writeByte 0xC000#16 0x81#8 },
   { bytes := [0x00#8], pc := 0x0100#16, cost := 1
     start := fun s => { s with f := 0xF0#8 }
     finish := fun s => { s with pc := 0x0101#16, f := 0xF0#8 } },
   { bytes := [0x76#8], pc := 0x0100#16, cost := 1
     start := fun s => { s with f := 0x00#8 }
     finish := fun s => { s with pc := 0x0101#16, run := .halted, f := 0x00#8 } },
   { bytes := [0x10#8, 0x00#8], pc := 0x0100#16, cost := 1
     start := fun s => { s with f := 0x00#8 }
     finish := fun s => { s with pc := 0x0102#16, run := .stopped, f := 0x00#8 } },
   { bytes := [0x10#8, 0xFF#8], pc := 0x0100#16, cost := 1
     start := fun s => { s with f := 0x00#8 }
     finish := fun s => { s with pc := 0x0102#16, run := .stopped, f := 0x00#8 } },
   { bytes := [0xF3#8], pc := 0x0100#16, cost := 1
     start := fun s => { s with ime := true, f := 0x00#8 }
     finish := fun s => { s with pc := 0x0101#16, ime := false, f := 0x00#8 } },
   { bytes := [0xFB#8], pc := 0x0100#16, cost := 1
     start := fun s => { s with ime := false, f := 0x00#8 }
     finish := fun s => { s with pc := 0x0101#16, ime := true, f := 0x00#8 } },
   { bytes := [0x27#8], pc := 0x0100#16, cost := 1
     start := fun s => { s with a := 0x3C#8, f := 0x00#8 }
     finish := fun s => { s with a := 0x42#8, pc := 0x0101#16, f := 0x00#8 } },
   { bytes := [0x27#8], pc := 0x0100#16, cost := 1
     start := fun s => { s with a := 0x9A#8, f := 0x00#8 }
     finish := fun s => { s with a := 0x00#8, pc := 0x0101#16, f := 0x90#8 } },
   { bytes := [0x27#8], pc := 0x0100#16, cost := 1
     start := fun s => { s with a := 0x2D#8, f := 0x60#8 }
     finish := fun s => { s with a := 0x27#8, pc := 0x0101#16, f := 0x40#8 } },
   { bytes := [0x27#8], pc := 0x0100#16, cost := 1
     start := fun s => { s with a := 0xFF#8, f := 0x00#8 }
     finish := fun s => { s with a := 0x65#8, pc := 0x0101#16, f := 0x10#8 } },
   { bytes := [0x27#8], pc := 0x0100#16, cost := 1
     start := fun s => { s with a := 0x00#8, f := 0x30#8 }
     finish := fun s => { s with a := 0x66#8, pc := 0x0101#16, f := 0x10#8 } },
   { bytes := [0x27#8], pc := 0x0100#16, cost := 1
     start := fun s => { s with a := 0x0A#8, f := 0x00#8 }
     finish := fun s => { s with a := 0x10#8, pc := 0x0101#16, f := 0x00#8 } },
   { bytes := [0x27#8], pc := 0x0100#16, cost := 1
     start := fun s => { s with a := 0x00#8, f := 0x70#8 }
     finish := fun s => { s with a := 0x9A#8, pc := 0x0101#16, f := 0x50#8 } }]

theorem test_vectors_11 : vectors11.all Vector.passes = true := by decide +kernel

/-- From DAA to (not fetched). -/
def vectors12 : List Vector :=
  [{ bytes := [0x27#8], pc := 0x0100#16, cost := 1
     start := fun s => { s with a := 0x90#8, f := 0x50#8 }
     finish := fun s => { s with a := 0x30#8, pc := 0x0101#16, f := 0x50#8 } },
   { bytes := [0x2F#8], pc := 0x0100#16, cost := 1
     start := fun s => { s with a := 0x35#8, f := 0x00#8 }
     finish := fun s => { s with a := 0xCA#8, pc := 0x0101#16, f := 0x60#8 } },
   { bytes := [0x2F#8], pc := 0x0100#16, cost := 1
     start := fun s => { s with a := 0xFF#8, f := 0x10#8 }
     finish := fun s => { s with a := 0x00#8, pc := 0x0101#16, f := 0x70#8 } },
   { bytes := [0x37#8], pc := 0x0100#16, cost := 1
     start := fun s => { s with f := 0xE0#8 }
     finish := fun s => { s with pc := 0x0101#16, f := 0x90#8 } },
   { bytes := [0x3F#8], pc := 0x0100#16, cost := 1
     start := fun s => { s with f := 0x70#8 }
     finish := fun s => { s with pc := 0x0101#16, f := 0x00#8 } },
   { bytes := [0x3F#8], pc := 0x0100#16, cost := 1
     start := fun s => { s with f := 0x80#8 }
     finish := fun s => { s with pc := 0x0101#16, f := 0x90#8 } },
   { bytes := [0x3E#8], pc := 0xFFFF#16, cost := 2
     start := fun s => ({ s with a := 0x00#8, f := 0x00#8 } : State).writeByte 0x0000#16 0x42#8
     finish := fun s => { s with a := 0x42#8, pc := 0x0001#16, f := 0x00#8 } },
   { bytes := [0xCB#8], pc := 0xFFFF#16, cost := 2
     start := fun s => ({ s with a := 0x12#8, f := 0x00#8 } : State).writeByte 0x0000#16 0x37#8
     finish := fun s => { s with a := 0x21#8, pc := 0x0001#16, f := 0x00#8 } },
   { bytes := [0xC3#8], pc := 0xFFFF#16, cost := 4
     start := fun s => (({ s with f := 0x00#8 } : State).writeByte 0x0000#16 0x00#8).writeByte 0x0001#16 0x80#8
     finish := fun s => { s with pc := 0x8000#16, f := 0x00#8 } },
   { bytes := [0x00#8], pc := 0xFFFF#16, cost := 1
     start := fun s => { s with f := 0x00#8 }
     finish := fun s => { s with pc := 0x0000#16, f := 0x00#8 } },
   { bytes := [0x00#8], pc := 0x0100#16, cost := 1
     start := fun s => { s with run := .halted, f := 0x00#8 }
     finish := fun s => { s with pc := 0x0100#16, f := 0x00#8 } },
   { bytes := [0xD3#8], pc := 0x0100#16, cost := 1
     start := fun s => { s with run := .stopped, f := 0x00#8 }
     finish := fun s => { s with pc := 0x0100#16, f := 0x00#8 } }]

theorem test_vectors_12 : vectors12.all Vector.passes = true := by decide +kernel

/-! ## 95_test_vectors.md section 3 -/

/-- Every one of the eleven bytes faults and carries the byte (section 3.1). -/
theorem test_illegal_bytes :
    illegalOpcodes.all (fun b =>
      match step ({ fixture with a := 0x11#8 }.placeBytes 0x0100#16 [b]) with
      | .fault e => decide (e = .unknownOpcode b)
      | .next _ => false
      | .refused _ => false) = true := by decide +kernel

theorem test_idle_halted :
    step { fixture with run := .halted } = .next { fixture with run := .halted, cycles := 1 } := by rfl

/-- An illegal byte at PC is not fetched while Stopped. -/
theorem test_idle_stopped :
    nextIs (step ({ fixture with run := .stopped }.placeBytes 0x0100#16 [0xD3#8]))
      (fun t => decide (t.run = .stopped) && t.pc == 0x0100#16 && t.cycles == 1) = true := by decide

/-- X1. -/
theorem test_interrupt_entry :
    nextIs (State.interruptEntry { fixture with pc := 0x0150#16, ime := true } 0x0048#16)
      (fun t => decide (t = ({ fixture with pc := 0x0048#16, sp := 0xFFFC#16, cycles := 5 } : State).write16 0xFFFC#16 0x0150#16))
      = true := by decide +kernel

/-- X2: the entry leaves Halted. -/
theorem test_interrupt_entry_halted :
    nextIs (State.interruptEntry
        { fixture with pc := 0x0109#16, sp := 0xD000#16, ime := true, run := .halted, cycles := 7 } 0x0040#16)
      (fun t => decide (t.run = .running) && t.cycles == 12 && t.readByte 0xCFFE#16 == 0x09#8) = true := by decide

/-- X3: the entry leaves Stopped. -/
theorem test_interrupt_entry_stopped :
    nextIs (State.interruptEntry { fixture with pc := 0x0202#16, ime := true, run := .stopped } 0x0060#16)
      (fun t => decide (t.run = .running) && t.pc == 0x0060#16 && !t.ime) = true := by decide

/-- X4. -/
theorem test_interrupt_entry_refused :
    State.interruptEntry { fixture with pc := 0x0150#16 } 0x0040#16 = .refused .interruptsDisabled := by rfl

/-- X5: the stack wraps through 0x0000. -/
theorem test_interrupt_entry_wraps :
    nextIs (State.interruptEntry { fixture with pc := 0x0150#16, sp := 0x0001#16, ime := true } 0x0050#16)
      (fun t => t.sp == 0xFFFF#16 && t.readByte 0x0000#16 == 0x01#8 && t.readByte 0xFFFF#16 == 0x50#8) = true := by
  decide

/-- X6: RETI in X1's end state. -/
theorem test_reti_after_entry :
    nextIs (step (({ fixture with pc := 0x0048#16, sp := 0xFFFC#16, cycles := 5 }.write16 0xFFFC#16 0x0150#16).placeBytes
        0x0048#16 [0xD9#8]))
      (fun t => t.pc == 0x0150#16 && t.sp == 0xFFFE#16 && t.ime && t.cycles == 9) = true := by decide

/-- P_EI_DELAY = 1. -/
def delayed : State := { fixture with params := { Config.defaultParams with eiDelay := .one } }

/-- The state between step 1 and step 2 of the rows Y1 to Y6: an EI is pending. -/
def pending : State := { delayed with pc := 0x0101#16, imePending := true }

/-- The first step of every row: EI sets ime_pending and leaves ime. -/
theorem test_ei_delayed :
    nextIs (step (delayed.placeBytes 0x0100#16 [0xFB#8])) (fun t => t.imePending && !t.ime) = true := by decide

/-- Y1 to Y3, Y5: after the next instruction ime is as it says, and nothing is pending. -/
theorem test_ei_completes :
    ([(0x00#8, true), (0xF3#8, false), (0xFB#8, true), (0x76#8, true)] : List (Byte × Bool)).all (fun x =>
      nextIs (step (pending.placeBytes 0x0101#16 [x.1])) (fun t => t.ime == x.2 && !t.imePending)) = true := by
  decide +kernel

/-- Y4: the step errs, and its fault holds no state. -/
theorem test_ei_then_illegal :
    step (pending.placeBytes 0x0101#16 [0xD3#8]) = .fault (.unknownOpcode 0xD3#8) := by rfl

/-- Y6. -/
theorem test_ei_then_reti :
    nextIs (step (({ pending with sp := 0xFFFC#16 }.write16 0xFFFC#16 0x0200#16).placeBytes 0x0101#16 [0xD9#8]))
      (fun t => t.pc == 0x0200#16 && t.sp == 0xFFFE#16 && t.ime && !t.imePending) = true := by decide

/-- The table of section 3.5. -/
theorem test_reset_post_boot :
    (State.resetAs .postBootDMG Config.defaultParams Config.zeroDraw []).readDouble .af = 0x01B0#16 := by decide
theorem test_reset_hardware : State.reset.pc = 0x0000#16 ∧ State.reset.run = .running ∧ State.reset.ime = false := by
  decide

/-! ## Witnesses: the hypotheses of each statement, met by a concrete state and operands -/

/-- Memory with the first and the last address in it. -/
def edges : State := { fixture with mem := [(0x0000, 0x12#8), (0xFFFF, 0x34#8)] }

/-- `edges` with SP where a push wraps and HL at the last address. -/
def wrapping : State := { edges with sp := 0x0001#16, h := 0xFF#8, l := 0xFF#8, f := 0xF0#8, ime := true }

theorem test_edges_inv : Inv edges := ⟨by decide, by decide, by decide⟩
theorem test_wrapping_inv : Inv wrapping := ⟨by decide, by decide, by decide⟩
theorem test_pending_inv : Inv pending := ⟨by decide, by decide, by decide⟩

theorem test_witness_decode_of_encode :
    Instr.WellFormed (.illegal 0xFD#8) ∧ Instr.WellFormed (.jr_c_e8 0x80#8) := by decide
theorem test_witness_encode_of_decode :
    decode [0x08#8, 0x00#8, 0xC1#8, 0x76#8] = .ok (.ld_mA16_sp 0xC100#16, [0x76#8]) ∧
    decode [0xFD#8] = .ok (.illegal 0xFD#8, []) := by decide
theorem test_witness_first_byte :
    decode (0xCB#8 :: [0x37#8]) = .ok (.swap_a, []) ∧ 1 ≤ [(0x37#8 : Byte)].length := by decide

/-- Two states that differ in the byte after a two-byte instruction that wraps. -/
theorem test_witness_decode_reads :
    let s := ({ fixture with pc := 0xFFFF#16 } : State).placeBytes 0xFFFF#16 [0x3E#8, 0x42#8, 0x01#8]
    let t := ({ fixture with pc := 0xFFFF#16 } : State).placeBytes 0xFFFF#16 [0x3E#8, 0x42#8, 0x02#8]
    ((∀ k, k < (s.fetchDecode 0xFFFF#16).2 →
      t.readByte (0xFFFF#16 + BitVec.ofNat 16 k) = s.readByte (0xFFFF#16 + BitVec.ofNat 16 k)) ∧
    s.mem ≠ t.mem) ∧
    ∃ b, ((fixture.placeBytes 0x0100#16 [0xD3#8]).fetchDecode 0x0100#16).1 = .illegal b := by
  exact ⟨by decide, ⟨0xD3#8, by decide⟩⟩

theorem test_witness_step_runs :
    let s := pending.placeBytes 0x0101#16 [0xE6#8, 0x0F#8]
    s.run = .running ∧
      decode [s.readByte s.pc, s.readByte (s.pc + 1#16), s.readByte (s.pc + 2#16)] = .ok (.and_d8 0x0F#8, [0x00#8]) := by
  decide
theorem test_witness_idle : ({ fixture with run := .stopped } : State).run ≠ .running := by decide

/-- Either clause at a byte beside a byte of the other. -/
theorem test_witness_step_faults :
    (let s := fixture.placeBytes 0x0100#16 [0xFC#8]
     s.run = .running ∧ s.readByte s.pc ∈ [0xD3#8, 0xDB#8, 0xDD#8, 0xE3#8, 0xE4#8, 0xEB#8, 0xEC#8, 0xED#8, 0xF4#8, 0xFC#8, 0xFD#8]) ∧
    (let s := fixture.placeBytes 0x0100#16 [0xFE#8]
     s.run = .running ∧ s.readByte s.pc ∉ [0xD3#8, 0xDB#8, 0xDD#8, 0xE3#8, 0xE4#8, 0xEB#8, 0xEC#8, 0xED#8, 0xF4#8, 0xFC#8, 0xFD#8]) := by
  decide

theorem test_witness_step_keeps_invariant : ∃ s t, Inv s ∧ step s = .next t ∧ t ≠ s :=
  ⟨wrapping, _, test_wrapping_inv, rfl, by decide⟩

theorem test_witness_reachable :
    ∃ s, Reachable s ∧ s.ime = false ∧ s.pc = 0x0100#16 :=
  ⟨_, .event .wake (.reset .postBootDMG Config.defaultParams Config.zeroDraw (fun _ => 0x76#8)) rfl, rfl, rfl⟩

theorem test_witness_completes : wrapping.mem.wf = true ∧ ∀ b, Form.push .af ≠ .illegal b :=
  ⟨by decide, fun _ h => nomatch h⟩
theorem test_witness_lengths : (∀ b, Form.alu .cp .mem ≠ .illegal b) ∧ Form.illegal 0xFD#8 = .illegal 0xFD#8 :=
  ⟨fun _ h => (nomatch h), rfl⟩

/-- A refused entry, an accepted one, DI, EI, RETI, and a pending EI, each where ime changes. -/
theorem test_witness_only_these_write_ime :
    fixture.ime = false ∧
    (∃ t, drive (.interruptEntry 0x0040#16) wrapping = .next t ∧ t.ime ≠ wrapping.ime) ∧
    (∃ t, drive .step (({ fixture with ime := true } : State).placeBytes 0x0100#16 [0xF3#8]) = .next t ∧ t.ime ≠ true) ∧
    (∃ t, drive .step (fixture.placeBytes 0x0100#16 [0xFB#8]) = .next t ∧ t.ime ≠ false) ∧
    (∃ t, drive .step (fixture.placeBytes 0x0100#16 [0xD9#8]) = .next t ∧ t.ime ≠ false) ∧
    (∃ t, drive .step pending = .next t ∧ t.ime ≠ pending.ime) :=
  ⟨rfl, ⟨_, rfl, by decide⟩, ⟨_, rfl, by decide⟩, ⟨_, rfl, by decide⟩, ⟨_, rfl, by decide⟩, ⟨_, rfl, by decide⟩⟩

/-- HALT, STOP, the wake input and an entry, each where the run state changes. -/
theorem test_witness_only_these_write_run :
    (∃ t, drive .step (fixture.placeBytes 0x0100#16 [0x76#8]) = .next t ∧ t.run ≠ .running) ∧
    (∃ t, drive .step (fixture.placeBytes 0x0100#16 [0x10#8]) = .next t ∧ t.run ≠ .running) ∧
    (∃ t, drive .wake { fixture with run := .halted } = .next t ∧ t.run ≠ .halted) ∧
    (∃ t, drive (.interruptEntry 0x0060#16) { wrapping with run := .stopped } = .next t ∧ t.run ≠ .stopped) :=
  ⟨⟨_, rfl, by decide⟩, ⟨_, rfl, by decide⟩, ⟨_, rfl, by decide⟩, ⟨_, rfl, by decide⟩⟩

theorem test_witness_no_instruction_reads : ∃ t, exec .ei delayed = .next t := ⟨_, rfl⟩
theorem test_witness_mem_write : edges.mem.wf = true ∧ (0x0000#16 : Word) ≠ 0xFFFF#16 := by decide
theorem test_witness_pop_push :
    wrapping.mem.wf = true ∧ (0x0001#16 : Word) ≠ wrapping.sp - 1#16 ∧ (0x0001#16 : Word) ≠ wrapping.sp - 2#16 := by decide

/-- The one hypothesis of the statements about a store: IncDecByte, StoreAtHl, StoreAToMemory, HlStepsAfterTheAccess,
LoadWord, Restart, RetUndoesCall, SwapNibbles and ResetAndSetBit. -/
theorem test_witness_store : wrapping.mem.wf = true ∧ wrapping.hl = 0xFFFF#16 := by decide

/-- PUSH AF and POP AF, and a pair that is not AF. -/
theorem test_witness_push_pop :
    wrapping.mem.wf = true ∧ (StackPair.af = .af ∧ StackPair.hl ≠ .af) := by decide

/-- Either clause of Jumps, RelativeJumps and Returns, on each condition. -/
theorem test_witness_conditions :
    (wrapping.cond .z = true ∧ wrapping.cond .nz = false ∧ wrapping.cond .c = true ∧ wrapping.cond .nc = false) ∧
    (fixture.cond .z = false ∧ fixture.cond .nz = true ∧ fixture.cond .c = false ∧ fixture.cond .nc = true) := by decide
theorem test_witness_calls :
    wrapping.mem.wf = true ∧ wrapping.cond .c = true ∧ wrapping.cond .nz = false := by decide
theorem test_witness_returns : delayed.params.eiDelay = .one ∧ delayed.cond .nc = true ∧ delayed.cond .c = false := by decide
theorem test_witness_rotate : RotOp.srl ≠ .swap ∧ RotOp.rlc ≠ .swap ∧ wrapping.mem.wf = true := by decide
theorem test_witness_di_ei : fixture.params.eiDelay = .zero ∧ delayed.params.eiDelay = .one := by decide

/-- EI with ime already 1 under P_EI_DELAY = 1 (log 17): its step leaves ime at 1. -/
theorem test_witness_ei_enabled :
    ({ delayed with ime := true } : State).params.eiDelay = .one ∧
    nextIs (step ({ delayed with ime := true }.placeBytes 0x0100#16 [0xFB#8])) (fun t => t.ime && t.imePending) = true := by
  decide

theorem test_witness_pending_ei :
    pending.params.eiDelay = .one ∧ pending.imePending = true ∧ pending.run = .running ∧ ∃ t, step pending = .next t :=
  ⟨rfl, rfl, rfl, _, rfl⟩

/-- 99 and 99, and the other end of the digits. -/
theorem test_witness_daa :
    IsBcd 0x99#8 ∧ IsBcd 0x00#8 ∧ ({ fixture with a := 0x99#8 } : State).readReg .a = 0x99#8 ∧
    ({ fixture with a := 0x99#8 } : State).sourceValue (.imm 0x99#8) = 0x99#8 := by
  exact ⟨⟨by decide, by decide⟩, ⟨by decide, by decide⟩, rfl, rfl⟩

theorem test_witness_interrupt_entry :
    (wrapping.mem.wf = true ∧ wrapping.ime = true ∧ (0x0060#16 : Word) ∈ wrapping.params.interruptVectors) ∧
    fixture.ime = false ∧ delayed.params.eiDelay = .one := by decide
theorem test_witness_reti :
    wrapping.mem.wf = true ∧ wrapping.ime = true ∧ (0x0040#16 : Word) ∈ wrapping.params.interruptVectors ∧
    (0x0041#16 : Word) ∉ wrapping.params.interruptVectors := by decide

end Sys2Proof.Machine.Tests
end

section
/-! PROOFS. The rules of `Frame`: every named update of the state extends a frame that lists what the update writes. The
frame of an instruction is then a chain of them, one rule per update of its meaning (10_state.md R28). -/

namespace Sys2Proof.Machine

/-- F rebuilt from its own flags is F with bits 3..0 zero (10_state.md R25, R27). -/
theorem FlagSet.pack_unpack (v : Byte) : (FlagSet.unpack v).pack = maskF v := by
  revert v
  decide

/-- Writing AF writes A and the four flags (10_state.md R24, R25). -/
theorem State.writeStackPair_af (s : State) (v : Word) :
    s.writeStackPair .af v = (s.writeReg .a (hiByte v)).setFlags (FlagSet.unpack (loByte v)) := by
  unfold State.setFlags
  rw [FlagSet.pack_unpack]
  rfl

namespace Frame

variable {p : List Part} {s t : State}

theorem refl (p : List Part) (s : State) : Frame p s s :=
  ⟨fun _ _ => rfl, fun _ => rfl, fun _ => rfl, fun _ => rfl, fun _ => rfl, fun _ => rfl, fun _ => rfl,
    fun _ _ => rfl, fun _ => rfl, fun _ => rfl, fun _ => rfl, rfl, id⟩

theorem tick (h : Frame p s t) (n : Nat) : Frame p s (t.tick n) := { h with }

theorem setPc (h : Frame p s t) (hp : .pc ∈ p) (v : Word) : Frame p s (t.setPc v) :=
  { h with pc := absurd hp }

theorem setIme (h : Frame p s t) (hp : .ime ∈ p) (v : Bool) : Frame p s (t.setIme v) :=
  { h with ime := absurd hp }

theorem setRun (h : Frame p s t) (hp : .run ∈ p) (v : RunState) : Frame p s (t.setRun v) :=
  { h with run := absurd hp }

theorem setPending (h : Frame p s t) (hp : .imePending ∈ p) (v : Bool) : Frame p s (t.setPending v) := by
  unfold State.setPending
  split
  · exact h
  · exact { h with imePending := absurd hp }

theorem writeSp (h : Frame p s t) (hp : .sp ∈ p) (v : Word) : Frame p s (t.writeDouble .sp v) :=
  { h with sp := absurd hp }

/-- A register may be written where it is listed, or with the value it had (CP, 40_alu8.md R153). -/
theorem writeReg (h : Frame p s t) {r : Reg8} {v : Byte} (hv : .reg r ∉ p → v = s.readReg r) :
    Frame p s (t.writeReg r v) := by
  have hreg : ∀ q, .reg q ∉ p → (t.writeReg r v).readReg q = s.readReg q := by
    intro q hq
    rw [State.writeReg_readReg]
    split
    · next hqr => subst hqr; exact hv hq
    · exact h.reg q hq
  cases r <;> exact { h with reg := hreg }

/-- A flag may be written where it is listed, or with the value it had. -/
theorem setFlags (h : Frame p s t) {fs : FlagSet}
    (hf : (.z ∉ p → fs.z = s.flags.z) ∧ (.n ∉ p → fs.n = s.flags.n) ∧
      (.h ∉ p → fs.h = s.flags.h) ∧ (.c ∉ p → fs.c = s.flags.c)) : Frame p s (t.setFlags fs) := by
  obtain ⟨hz, hn, hh, hc⟩ := hf
  have hfs := State.setFlags_flags t fs
  exact { h with
    reg := fun r hr => by rw [State.setFlags_readReg, h.reg r hr]
    z := fun hp => by rw [hfs, hz hp]
    n := fun hp => by rw [hfs, hn hp]
    h := fun hp => by rw [hfs, hh hp]
    c := fun hp => by rw [hfs, hc hp]
    flagBits := fun _ => FlagSet.pack_low fs }

theorem writeByte (h : Frame p s t) (ht : t.mem.wf = true) {a : Word} (hp : .byte a ∈ p) (v : Byte) :
    Frame p s (t.writeByte a v) :=
  { h with
    memory := fun x hx => by
      rw [State.readByte_writeByte ht, if_neg (by rintro rfl; exact hx hp)]
      exact h.memory x hx }

theorem write16 (h : Frame p s t) (ht : t.mem.wf = true) {a : Word} (hlo : .byte a ∈ p) (hhi : .byte (a + 1#16) ∈ p)
    (v : Word) : Frame p s (t.write16 a v) :=
  (h.writeByte ht hlo _).writeByte (State.writeByte_wf ht a _) hhi _

/-- Two registers written, high half and low half. -/
theorem writeRegs (h : Frame p s t) {hi lo : Reg8} (hp : [.reg hi, .reg lo] ⊆ p) (x y : Byte) :
    Frame p s ((t.writeReg hi x).writeReg lo y) :=
  (h.writeReg (absurd (hp (by simp)))).writeReg (absurd (hp (by simp)))

theorem writePair (h : Frame p s t) {rr : Pair} (hp : pairParts rr ⊆ p) (v : Word) :
    Frame p s (t.writePair rr v) := by
  cases rr with
  | bc => exact h.writeRegs (hi := .b) (lo := .c) hp (hiByte v) (loByte v)
  | de => exact h.writeRegs (hi := .d) (lo := .e) hp (hiByte v) (loByte v)
  | hl => exact h.writeRegs (hi := .h) (lo := .l) hp (hiByte v) (loByte v)
  | sp => exact h.writeSp (hp (.head _)) v

theorem setHl (h : Frame p s t) (hp : pairParts .hl ⊆ p) (v : Word) : Frame p s (t.setHl v) :=
  h.writePair hp v

theorem writeStackPair (h : Frame p s t) {qq : StackPair} (hp : stackPairParts qq ⊆ p) (v : Word) :
    Frame p s (t.writeStackPair qq v) := by
  cases qq with
  | bc => exact h.writePair (rr := .bc) hp v
  | de => exact h.writePair (rr := .de) hp v
  | hl => exact h.writePair (rr := .hl) hp v
  | af =>
    rw [State.writeStackPair_af]
    exact (h.writeReg (absurd (hp (.head _)))).setFlags
      (by refine ⟨absurd ?_, absurd ?_, absurd ?_, absurd ?_⟩ <;> exact hp (by simp [stackPairParts, allFlags]))

theorem pushByte (h : Frame p s t) (ht : t.mem.wf = true) (hsp : .sp ∈ p) (hp : .byte (t.sp - 1#16) ∈ p)
    (v : Byte) : Frame p s (t.pushByte v) :=
  (h.writeSp hsp (t.sp - 1#16)).writeByte ht hp v

/-- A push writes SP and the two bytes below it (20_memory.md R65). -/
theorem push16 (h : Frame p s t) (ht : t.mem.wf = true) (hp : pushParts t ⊆ p) (v : Word) :
    Frame p s (t.push16 v) := by
  have hsp : .sp ∈ p := hp (.head _)
  have hlo : .byte (t.sp - 1#16 - 1#16) ∈ p := by
    rw [BitVec.sub_sub]
    exact hp (.tail _ (.tail _ (.head _)))
  exact (h.pushByte ht hsp (hp (.tail _ (.head _))) (hiByte v)).pushByte (State.pushByte_wf ht _) hsp hlo (loByte v)

theorem popPc (h : Frame p s t) (hpc : .pc ∈ p) (hsp : .sp ∈ p) : Frame p s t.popPc :=
  (h.writeSp hsp _).setPc hpc _

/-- A conditional instruction writes what its branch writes. -/
theorem ite {q : List Part} {u : State} {c : Prop} [Decidable c] (ht : c → Frame p s t) (hu : ¬c → Frame q s u) :
    Frame (if c then p else q) s (if c then t else u) := by
  split
  · exact ht ‹_›
  · exact hu ‹_›

end Frame

end Sys2Proof.Machine
end

section
/-! PROOFS. The frame of every form (10_state.md R28): each case is the chain of the updates its meaning makes. -/

namespace Sys2Proof.Machine

theorem loadA_frame {p : List Part} (hp : .reg .a ∈ p) (addr : Word) (n : Nat) (s : State) :
    Frame p s (loadA addr n s) :=
  ((Frame.refl p s).writeReg (absurd hp)).tick n

theorem storeA_frame {p : List Part} {s : State} (hs : s.mem.wf = true) {addr : Word} (hp : .byte addr ∈ p)
    (n : Nat) : Frame p s (storeA addr n s) :=
  ((Frame.refl p s).writeByte hs hp _).tick n

theorem callTo_frame {s : State} (hs : s.mem.wf = true) (target : Word) :
    Frame (.pc :: pushParts s) s (callTo target s) :=
  ((Frame.refl _ s).push16 hs (List.subset_cons_self ..) _).setPc (.head _) _

theorem accRotate_frame (op : RotOp) (s : State) : Frame (.reg .a :: allFlags) s (accRotate op s) :=
  (((Frame.refl _ s).writeReg (by simp)).setFlags (by simp [allFlags])).tick 1

theorem aluOp_frame (op : AluOp) (src : Source) (s : State) :
    Frame (Form.writes s (.alu op src)) s (aluOp op src s) := by
  refine ((Frame.writeReg (.refl _ s) ?_).setFlags ?_).tick _
  · cases op <;> simp [Form.writes, aluBytes]
  · cases op <;> simp [Form.writes, allFlags]

/-- Every form but an illegal byte's writes only the parts its rule names (10_state.md R28). Memory need be canonical
only where the form stores a byte. -/
theorem Form.run_frame {f : Form} {s t : State} (h : Form.run f s = .next t)
    (hs : ∀ a, .byte a ∈ Form.writes s f → s.mem.wf = true) : Frame (Form.writes s f) s t := by
  have hrefl := Frame.refl (Form.writes s f) s
  cases f <;> cases h
  case alu op src => exact aluOp_frame op src s
  case incReg | decReg =>
    exact ((hrefl.writeReg (absurd (.head _))).setFlags (by simp [Form.writes, incByte, decByte])).tick _
  case incMem | decMem =>
    exact ((hrefl.writeByte (hs _ (.head _)) (.head _) _).setFlags (by simp [Form.writes, incByte, decByte])).tick _
  case addHl =>
    exact ((hrefl.setHl (by simp [pairParts, Form.writes]) _).setFlags (by simp [Form.writes, addWords])).tick _
  case addSp => exact ((hrefl.writeSp (.head _) _).setFlags (by simp [Form.writes, allFlags])).tick _
  case incPair | decPair | ldPairImm => exact (hrefl.writePair (List.Subset.refl _) _).tick _
  case ldRegReg | ldRegImm | ldRegMem | resReg | setReg => exact (hrefl.writeReg (absurd (.head _))).tick _
  case ldMemReg | ldMemImm | resMem | setMem => exact (hrefl.writeByte (hs _ (.head _)) (.head _) _).tick _
  case ldABc | ldADe | ldAAddr | ldhAImm | ldAC => exact loadA_frame (.head _) _ _ s
  case ldBcA | ldDeA | ldAddrA | ldhImmA | ldCA => exact storeA_frame (hs _ (.head _)) (.head _) _
  case ldAHlInc | ldAHlDec => exact (loadA_frame (.head _) _ _ s).setHl (by simp [pairParts]) _
  case ldHlIncA | ldHlDecA => exact (storeA_frame (hs _ (.head _)) (.head _) _).setHl (by simp [pairParts]) _
  case ldAddrSp => exact (hrefl.write16 (hs _ (.head _)) (.head _) (.tail _ (.head _)) _).tick _
  case ldSpHl => exact (hrefl.writeSp (.head _) _).tick _
  case ldHlSp =>
    exact ((hrefl.setHl (by simp [pairParts, Form.writes]) _).setFlags (by simp [Form.writes, allFlags])).tick _
  case push => exact (hrefl.push16 (hs _ (.tail _ (.head _))) (List.Subset.refl _) _).tick _
  case pop => exact ((hrefl.writeSp (.head _) _).writeStackPair (List.subset_cons_self ..) _).tick _
  case jp | jpHl | jr => exact (hrefl.setPc (.head _) _).tick _
  case jpCond | jrCond =>
    exact .ite (fun _ => ((Frame.refl _ s).setPc (.head _) _).tick _) fun _ => (Frame.refl _ s).tick _
  case call | rst => exact (callTo_frame (hs _ (.tail _ (.tail _ (.head _)))) _).tick _
  case callCond cc a16 =>
    refine .ite (fun hcc => ?_) fun _ => (Frame.refl _ s).tick _
    exact (callTo_frame (hs (s.sp - 1#16) (by simp [Form.writes, hcc, pushParts])) a16).tick _
  case ret => exact (hrefl.popPc (.head _) (.tail _ (.head _))).tick _
  case retCond =>
    exact .ite (fun _ => ((Frame.refl _ s).popPc (.head _) (.tail _ (.head _))).tick _) fun _ => (Frame.refl _ s).tick _
  case reti =>
    exact (((hrefl.popPc (.head _) (.tail _ (.head _))).setIme (by simp [Form.writes]) _).setPending
      (by simp [Form.writes]) _).tick _
  case rlca | rrca | rla | rra => exact accRotate_frame _ s
  case rotReg => exact ((hrefl.writeReg (absurd (.head _))).setFlags (by simp [Form.writes, allFlags])).tick _
  case rotMem =>
    exact ((hrefl.writeByte (hs _ (.head _)) (.head _) _).setFlags (by simp [Form.writes, allFlags])).tick _
  case bitReg | bitMem => exact (hrefl.setFlags (by simp [Form.writes, bitFlags])).tick _
  case nop => exact hrefl.tick _
  case halt | stop => exact (hrefl.setRun (.head _) _).tick _
  case di => exact ((hrefl.setIme (.head _) _).setPending (.tail _ (.head _)) _).tick _
  case ei =>
    cases hd : s.params.eiDelay <;> simp only [Form.writes, eiOp, hd]
    · exact ((Frame.refl _ s).setIme (.head _) _).tick _
    · exact ((Frame.refl _ s).setPending (.head _) _).tick _
  case daa => exact ((hrefl.writeReg (absurd (.head _))).setFlags (by simp [Form.writes, daaByte])).tick _
  case cpl => exact ((hrefl.writeReg (absurd (.head _))).setFlags (by simp [Form.writes])).tick _
  case scf | ccf => exact (hrefl.setFlags (by simp [Form.writes])).tick _

/-- Settles O13: a form that is not illegal runs to a next state (`Form.run_cases`), in its frame. -/
theorem everyInstructionCompletesAndWritesOnlyItsParts :
    Obligations.EveryInstructionCompletesAndWritesOnlyItsParts := by
  refine ⟨fun i => ⟨i.form, i.toInstr_form⟩, fun f s hs hf => ?_⟩
  rw [exec_toInstr]
  obtain ⟨t, ht⟩ | ⟨b, hb, -⟩ := Form.run_cases f s
  · exact ⟨t, ht, Form.run_frame ht fun _ _ => hs⟩
  · exact absurd hb (hf b)

end Sys2Proof.Machine
end

section
/-! PROOFS. The register file and its flags (10_state.md R23 to R27, R37). -/

namespace Sys2Proof.Machine

/-- Settles O18: the reads and writes are `State.readDouble` and `State.writeDouble` by definition, and the bit
positions are the laws of `wordOf`, `hiByte` and `loByte`. -/
theorem pairsAreViewsOfTheirHalves : Obligations.PairsAreViewsOfTheirHalves := by
  intro s v
  refine ⟨rfl, rfl, rfl, rfl, rfl, rfl, rfl, rfl, rfl, rfl, rfl, rfl, ?_⟩
  exact ⟨wordOf_hiByte_loByte v, hiByte_toNat v, loByte_toNat v⟩

/-- Settles O19: `maskF` and `FlagSet.pack` are the two ways F is written, and both leave bits 3..0 zero. -/
theorem flagsAreTheHighBitsOfF : Obligations.FlagsAreTheHighBitsOfF := by
  intro s b v fs
  have hread : s.readSingle .f &&& 0x0F#8 = 0#8 := maskF_low s.f
  have hset : (s.setFlags fs).f &&& 0x0F#8 = 0#8 := FlagSet.pack_low fs
  exact ⟨rfl, rfl, hset, hread, rfl, State.setFlags_flags s fs, rfl, rfl, rfl, rfl, rfl⟩

end Sys2Proof.Machine
end

section
/-! PROOFS. Memory and the stack (20_memory.md R61, R65). -/

namespace Sys2Proof.Machine

/-- Settles O21: each byte read is a branch of `State.push16_readByte`; one below the old SP is not the address of the
low byte, also where SP wraps. -/
theorem popReturnsWhatWasPushed : Obligations.PopReturnsWhatWasPushed := by
  intro s v hs
  have hread := State.push16_readByte hs v
  have hne : s.sp - 1#16 ≠ s.sp - 2#16 := by bv_omega
  obtain ⟨hpop, hsp⟩ := State.pop16_push16 hs v
  refine ⟨?_, ?_, s.push16_sp v, fun x h1 h2 => ?_, s.pop16_fst, rfl, hpop, hsp⟩
  · rw [hread, if_pos rfl]
  · rw [hread, if_neg hne, if_pos rfl]
  · rw [hread, if_neg h2, if_neg h1]

/-- Settles O20: the byte read is a branch of `State.readByte_writeByte`, and a write is an update of memory alone. -/
theorem memWriteReplacesOneByte : Obligations.MemWriteReplacesOneByte := by
  intro s a v hs
  have hread := fun x => State.readByte_writeByte hs a x v
  refine ⟨?_, fun x hx => ?_, rfl, State.writeByte_wf hs a v⟩
  · rw [hread, if_pos rfl]
  · rw [hread, if_neg hx]

end Sys2Proof.Machine
end

section
/-! PROOFS. Which bytes the decoder calls illegal (30_encoding.md R101). -/

namespace Sys2Proof

theorem decodeCb_ne_illegal (cb b : Byte) : decodeCb cb ≠ .illegal b := by
  unfold decodeCb
  split <;> simp

theorem decodeX0_ne_illegal (op b1 b2 b : Byte) : decodeX0 op b1 b2 ≠ .illegal b := by
  unfold decodeX0
  cases fieldZ op <;> dsimp only <;> split <;> simp

theorem decodeX1_ne_illegal (op b : Byte) : decodeX1 op ≠ .illegal b := by
  unfold decodeX1
  split <;> simp

theorem decodeX2_ne_illegal (op b : Byte) : decodeX2 op ≠ .illegal b := by
  unfold decodeX2
  split <;> simp

/-- The rows of R100 with x = 3 that end in R101's error: they carry the opcode byte itself. -/
theorem decodeX3_illegal {op b1 b2 b : Byte} (h : decodeX3 op b1 b2 = .illegal b) :
    b = op ∧
      ((fieldZ op = .i3 ∧ fieldY op ∉ [.i0, .i1, .i6, .i7]) ∨
        (fieldZ op = .i4 ∧ fieldY op ∉ [.i0, .i1, .i2, .i3]) ∨
        (fieldZ op = .i5 ∧ fieldQ op = true ∧ fieldP op ≠ .i0)) := by
  unfold decodeX3 at h
  cases hz : fieldZ op <;> simp only [hz] at h
  case i3 => cases hy : fieldY op <;> simp_all [decodeCb_ne_illegal]
  case i4 => cases hy : fieldY op <;> simp_all
  case i5 => cases hq : fieldQ op <;> cases hp : fieldP op <;> simp_all
  case i0 | i2 => split at h <;> cases h
  case i1 =>
    split at h
    · split at h <;> cases h
    · cases h
  case i6 | i7 => cases h

/-- Only an unmapped byte decodes to R101's error, which carries it. -/
theorem decodeForm_illegal {b0 b1 b2 b : Byte} (h : decodeForm b0 b1 b2 = .illegal b) :
    b = b0 ∧ b0 ∈ illegalOpcodes := by
  unfold decodeForm at h
  split at h
  next => exact absurd h (decodeX0_ne_illegal b0 b1 b2 b)
  next => exact absurd h (decodeX1_ne_illegal b0 b)
  next => exact absurd h (decodeX2_ne_illegal b0 b)
  next hx =>
    obtain ⟨hb, hrow⟩ := decodeX3_illegal h
    refine ⟨hb, ?_⟩
    clear h hb
    revert b0
    decide

theorem decodeBytes_illegal {b0 b1 b2 b : Byte} (h : decodeBytes b0 b1 b2 = .illegal b) :
    b = b0 ∧ b0 ∈ illegalOpcodes := by
  have hform : decodeForm b0 b1 b2 = .illegal b := by
    rw [← Form.form_toInstr (decodeForm b0 b1 b2)]
    exact congrArg Instr.form h
  exact decodeForm_illegal hform

/-- An unmapped byte is read alone (30_encoding.md R106). -/
theorem instrLength_of_mem_illegalOpcodes {b0 : Byte} (h : b0 ∈ illegalOpcodes) : instrLength b0 = 1 := by
  revert b0
  decide

end Sys2Proof
end

section
/-! PROOFS. What a fetch reads (30_encoding.md R105, R106). -/

namespace Sys2Proof.Machine

theorem State.fetchDecode_length (s : State) (pc : Word) :
    (s.fetchDecode pc).2 = instrLength (s.readByte pc) :=
  rfl

theorem State.fetchDecode_instr (s : State) (pc : Word) :
    ∃ b1 b2, (s.fetchDecode pc).1 = decodeBytes (s.readByte pc) b1 b2 :=
  ⟨_, _, rfl⟩

/-- Two states that agree on the bytes of the instruction fetch the same instruction. -/
theorem State.fetchDecode_congr {s t : State} {pc : Word}
    (h : ∀ k, k < (s.fetchDecode pc).2 →
      t.readByte (pc + BitVec.ofNat 16 k) = s.readByte (pc + BitVec.ofNat 16 k)) :
    t.fetchDecode pc = s.fetchDecode pc := by
  rw [State.fetchDecode_length] at h
  have h0 : t.readByte pc = s.readByte pc := by
    have hpos : 0 < instrLength (s.readByte pc) := by
      rcases instrLength_cases (s.readByte pc) with hl | hl | hl <;> omega
    simpa using h 0 hpos
  unfold State.fetchDecode
  rcases instrLength_cases (s.readByte pc) with hl | hl | hl <;> rw [hl] at h
  · simp [h0, hl]
  · simp [h0, hl, h 1 (by decide)]
  · simp [h0, hl, h 1 (by decide), h 2 (by decide)]

/-- Settles O4: the bytes read are those below the length (`State.fetchDecode_congr`), and an illegal term comes only
from an unmapped byte, whose length is 1. -/
theorem decodeReadsOnlyItsOwnBytes : Obligations.DecodeReadsOnlyItsOwnBytes := by
  refine fun s t pc h => ⟨State.fetchDecode_congr h, fun ⟨b, hb⟩ => ?_⟩
  obtain ⟨b1, b2, hinstr⟩ := s.fetchDecode_instr pc
  rw [hinstr] at hb
  obtain ⟨-, hmem⟩ := decodeBytes_illegal hb
  rw [State.fetchDecode_length, instrLength_of_mem_illegalOpcodes hmem]

end Sys2Proof.Machine
end

section
/-! PROOFS. The binary 8-bit ALU (40_alu8.md R130 to R155): one encoding lemma and one lemma on what `exec` gives for all
eight operations, then the sum and the difference of bytes as numbers. ADC and SBC are the cases with a carry-in. -/

namespace Sys2Proof

/-- The value of an ALU operation in field y (30_encoding.md R96). -/
def AluOp.code : AluOp → Byte
  | .add => 0#8
  | .adc => 1#8
  | .sub => 2#8
  | .sbc => 3#8
  | .and => 4#8
  | .xor => 5#8
  | .or => 6#8
  | .cp => 7#8

namespace Machine

/-- The opcodes of the eight operations lie 8 apart in each of the three forms (30_encoding.md R96, R100). -/
theorem alu_encodes (op : AluOp) (src : Source) :
    Encodes (sourceEncoding (0x80#8 + 8#8 * op.code) (0x86#8 + 8#8 * op.code) (0xC6#8 + 8#8 * op.code) src)
      (Form.toInstr (.alu op src)) := by
  intro rest
  cases src with
  | reg r => cases op <;> cases r <;> rfl
  | mem => cases op <;> rfl
  | imm d8 => cases op <;> rfl

/-- A form's cost is its source's alone (40_alu8.md R130). -/
theorem sourceCycles_eq_mcycles (op : AluOp) (src : Source) (s : State) :
    sourceCycles src = Form.mcycles s (.alu op src) := by
  cases src <;> rfl

/-- What an ALU instruction leaves: `aluBytes` of A and the source in A and the flags, its cost in `cycles`, and all
else as it was (40_alu8.md R130). -/
theorem exec_alu (op : AluOp) (src : Source) (s : State) :
    ∃ t, exec (Form.toInstr (.alu op src)) s = .next t ∧
      t.readReg .a = (aluBytes op (s.readReg .a) (s.sourceValue src) s.flags.c).1 ∧
      t.flags = (aluBytes op (s.readReg .a) (s.sourceValue src) s.flags.c).2 ∧
      t.cycles = s.cycles + Form.mcycles s (.alu op src) ∧
      Frame (Form.writes s (.alu op src)) s t := by
  refine ⟨aluOp op src s, exec_toInstr _ s, ?_, ?_, ?_, aluOp_frame op src s⟩
  · simp [aluOp]
  · simp [aluOp]
  · simp [aluOp, sourceCycles_eq_mcycles op src s]

/-- The Z flag in arithmetic. -/
theorem beq_zero_eq_decide_toNat (v : Byte) : (v == 0#8) = decide (v.toNat = 0) := by
  rw [Bool.eq_iff_iff]
  simp [← BitVec.toNat_inj]

theorem addBytes_fst_toNat (a v : Byte) (cin : Bool) :
    (addBytes a v cin).1.toNat = (a.toNat + v.toNat + cin.toNat) % 256 := by
  simp [addBytes]

theorem addBytes_snd (a v : Byte) (cin : Bool) :
    (addBytes a v cin).2 =
      { z := decide ((addBytes a v cin).1.toNat = 0), n := false
        h := decide (a.toNat % 16 + v.toNat % 16 + cin.toNat > 0xF)
        c := decide (a.toNat + v.toNat + cin.toNat > 0xFF) } := by
  rw [← beq_zero_eq_decide_toNat]
  rfl

/-- The 512 keeps the difference of natural numbers exact: v and the borrow-in are together at most 256. -/
theorem subBytes_fst_toNat (a v : Byte) (cin : Bool) :
    (subBytes a v cin).1.toNat = (a.toNat + 512 - v.toNat - cin.toNat) % 256 := by
  cases cin <;> simp [subBytes, BitVec.toNat_sub] <;> omega

theorem subBytes_snd (a v : Byte) (cin : Bool) :
    (subBytes a v cin).2 =
      { z := decide ((subBytes a v cin).1.toNat = 0), n := true
        h := decide (a.toNat % 16 < v.toNat % 16 + cin.toNat)
        c := decide (a.toNat < v.toNat + cin.toNat) } := by
  rw [← beq_zero_eq_decide_toNat]
  rfl

/-- Without a borrow-in, 256 is enough. -/
theorem subBytes_false_fst_toNat (a v : Byte) :
    (subBytes a v false).1.toNat = (a.toNat + 256 - v.toNat) % 256 := by
  have hv := v.isLt
  rw [subBytes_fst_toNat, Bool.toNat_false]
  omega

/-- The difference is zero exactly when the bytes are equal (40_alu8.md R153). -/
theorem subBytes_false_fst_eq_zero_iff (a v : Byte) : (subBytes a v false).1.toNat = 0 ↔ a.toNat = v.toNat := by
  have ha := a.isLt
  have hv := v.isLt
  rw [subBytes_false_fst_toNat]
  omega

end Machine

end Sys2Proof
end

section
/-! PROOFS. ADD, SUB, AND, XOR, OR and CP (40_alu8.md R132 to R134, R138 to R140, R144 to R155). -/

namespace Sys2Proof.Machine

/-- Settles O22: `addBytes` without a carry-in. -/
theorem addToA : Obligations.AddToA := by
  intro src s a v
  obtain ⟨t, hexec, ha, hflags, hcycles, hframe⟩ := exec_alu .add src s
  have hsum : (addBytes (s.readReg .a) (s.sourceValue src) false).1.toNat = (a + v) % 256 :=
    addBytes_fst_toNat _ _ false
  refine ⟨alu_encodes .add src, t, hexec, ?_, ?_, hcycles, hframe⟩
  · rw [ha]
    exact hsum
  · rw [hflags, ← hsum]
    exact addBytes_snd _ _ false

/-- Settles O24: `subBytes` without a borrow-in. -/
theorem subFromA : Obligations.SubFromA := by
  intro src s a v
  obtain ⟨t, hexec, ha, hflags, hcycles, hframe⟩ := exec_alu .sub src s
  have hdiff : (subBytes (s.readReg .a) (s.sourceValue src) false).1.toNat = (a + 256 - v) % 256 :=
    subBytes_false_fst_toNat _ _
  refine ⟨alu_encodes .sub src, t, hexec, ?_, ?_, hcycles, hframe⟩
  · rw [ha]
    exact hdiff
  · rw [hflags, ← hdiff]
    exact subBytes_snd _ _ false

/-- Settles O26: each operation is its branch of `aluBytes`, with `logicFlags` of the result. -/
theorem logicOnA : Obligations.LogicOnA := by
  intro src s
  refine ⟨?_, ?_, ?_⟩
  · exact ⟨alu_encodes .and src, exec_alu .and src s⟩
  · exact ⟨alu_encodes .xor src, exec_alu .xor src s⟩
  · exact ⟨alu_encodes .or src, exec_alu .or src s⟩

/-- Settles O27: the flags of `subBytes`, whose difference is zero exactly when the bytes are equal. -/
theorem compareWithA : Obligations.CompareWithA := by
  intro src s a v
  obtain ⟨t, hexec, -, hflags, hcycles, hframe⟩ := exec_alu .cp src s
  have hzero : (subBytes (s.readReg .a) (s.sourceValue src) false).1.toNat = 0 ↔ a = v :=
    subBytes_false_fst_eq_zero_iff _ _
  refine ⟨alu_encodes .cp src, t, hexec, ?_, hcycles, hframe⟩
  simp only [hflags, ← hzero]
  exact subBytes_snd _ _ false

end Sys2Proof.Machine
end

section
/-! PROOFS. The signed offset from SP, and INC and DEC of a pair (41_alu16.md R171 to R173, 42_loads.md R203). -/

namespace Sys2Proof.Machine

/-- A sign-extended byte adds its signed value, modulo 65536 (30_encoding.md R99). -/
theorem add_signExtend_toNat (w : Word) (e8 : Byte) :
    ((w + e8.signExtend 16).toNat : Int) = (w.toNat + e8.toInt) % 65536 := by
  have hsum : w + e8.signExtend 16 = BitVec.ofInt 16 (w.toNat + e8.toInt) := by
    rw [BitVec.ofInt_add, BitVec.ofInt_natCast, BitVec.ofNat_toNat, BitVec.setWidth_eq, BitVec.signExtend]
  rw [hsum, BitVec.toNat_ofInt]
  omega

/-- ADD SP,e8 leaves `addOffset` of the old SP in SP and the flags (41_alu16.md R171). -/
theorem exec_addSp (e8 : Byte) (s : State) :
    ∃ t, exec (.add_sp_e8 e8) s = .next t ∧
      t.sp = (addOffset s.sp e8).1 ∧ t.flags = (addOffset s.sp e8).2 ∧
      t.cycles = s.cycles + 4 ∧ Frame (.sp :: allFlags) s t := by
  refine ⟨addSpOp e8 s, exec_toInstr (.addSp e8) s, rfl, ?_, rfl, ?_⟩
  · simp [addSpOp]
  · exact Form.run_frame (f := .addSp e8) rfl (by simp [Form.writes, allFlags])

/-- LD HL,SP+e8 leaves `addOffset` of SP in HL and the flags (42_loads.md R203). -/
theorem exec_ldHlSp (e8 : Byte) (s : State) :
    ∃ t, exec (.ld_hl_sp_e8 e8) s = .next t ∧
      t.hl = (addOffset s.sp e8).1 ∧ t.flags = (addOffset s.sp e8).2 ∧
      t.cycles = s.cycles + 3 ∧ Frame (.reg .h :: .reg .l :: allFlags) s t := by
  refine ⟨ldHlSpOp e8 s, exec_toInstr (.ldHlSp e8) s, ?_, ?_, rfl, ?_⟩
  · simp [ldHlSpOp]
  · simp [ldHlSpOp]
  · exact Form.run_frame (f := .ldHlSp e8) rfl (by simp [Form.writes, allFlags])

/-- Settles O30: both instructions write `addOffset` of SP, whose sum is `add_signExtend_toNat` and whose flags are the
statement's by definition. -/
theorem spPlusOffset : Obligations.SpPlusOffset := by
  intro e8 s flags
  have hsum : ((addOffset s.sp e8).1.toNat : Int) = (s.sp.toNat + e8.toInt) % 65536 :=
    add_signExtend_toNat s.sp e8
  have hflags : (addOffset s.sp e8).2 = flags := rfl
  constructor
  · obtain ⟨t, hexec, hsp, hf, hcycles, hframe⟩ := exec_addSp e8 s
    rw [← hsp] at hsum
    exact ⟨fun _ => rfl, t, hexec, hsum, hf.trans hflags, hcycles, hframe⟩
  · obtain ⟨t, hexec, hhl, hf, hcycles, hframe⟩ := exec_ldHlSp e8 s
    rw [← hhl] at hsum
    exact ⟨fun _ => rfl, t, hexec, hsum, hf.trans hflags, hcycles, hframe⟩

/-- INC of a pair is `00 pp0 011` (41_alu16.md R172). -/
theorem incPair_encodes (rr : Pair) : Encodes [0x03#8 + 16#8 * rr.code] (Form.toInstr (.incPair rr)) := by
  intro rest
  cases rr <;> rfl

/-- DEC of a pair is `00 pp1 011` (41_alu16.md R173). -/
theorem decPair_encodes (rr : Pair) : Encodes [0x0B#8 + 16#8 * rr.code] (Form.toInstr (.decPair rr)) := by
  intro rest
  cases rr <;> rfl

/-- What an instruction that writes one pair and takes `n` M-cycles leaves. -/
theorem State.writePair_tick (s : State) (rr : Pair) (v : Word) (n : Nat) :
    ((s.writePair rr v).tick n).readPair rr = v ∧ ((s.writePair rr v).tick n).cycles = s.cycles + n ∧
      Frame (pairParts rr) s ((s.writePair rr v).tick n) := by
  refine ⟨?_, ?_, ((Frame.refl _ s).writePair (List.Subset.refl _) v).tick n⟩
  · rw [State.tick_readPair, State.writePair_readPair]
  · rw [State.tick_cycles, State.writePair_cycles]

/-- Settles O31: each writes the pair alone, with the old value plus or minus one; the decrement is the addition of
65535. -/
theorem incDecPair : Obligations.IncDecPair := by
  intro rr s
  constructor
  · have hval : (s.readPair rr + 1#16).toNat = ((s.readPair rr).toNat + 1) % 65536 := BitVec.toNat_add ..
    obtain ⟨hread, hrest⟩ := s.writePair_tick rr (s.readPair rr + 1#16) 2
    rw [← hread] at hval
    exact ⟨incPair_encodes rr, incPairOp rr s, exec_toInstr _ s, hval, hrest⟩
  · have hval : (s.readPair rr - 1#16).toNat = ((s.readPair rr).toNat + 65535) % 65536 := by bv_omega
    obtain ⟨hread, hrest⟩ := s.writePair_tick rr (s.readPair rr - 1#16) 2
    rw [← hread] at hval
    exact ⟨decPair_encodes rr, decPairOp rr s, exec_toInstr _ s, hval, hrest⟩

end Sys2Proof.Machine
end

section
/-! PROOFS. The 8-bit loads (42_loads.md R180 to R198): each writes one register or one byte of memory, so one lemma for
either write holds what they all leave. The loads and stores through HL+ and HL- then step HL. -/

namespace Sys2Proof.Machine

/-- What an instruction that writes one register and takes `n` M-cycles leaves. -/
theorem State.writeReg_tick (s : State) (r : Reg8) (v : Byte) (n : Nat) :
    ((s.writeReg r v).tick n).readReg r = v ∧ ((s.writeReg r v).tick n).cycles = s.cycles + n ∧
      Frame [.reg r] s ((s.writeReg r v).tick n) := by
  refine ⟨?_, ?_, ((Frame.refl _ s).writeReg (absurd (.head _))).tick n⟩
  · rw [State.tick_readReg, State.writeReg_readReg, if_pos rfl]
  · rw [State.tick_cycles, State.writeReg_cycles]

/-- What an instruction that stores one byte and takes `n` M-cycles leaves. -/
theorem State.writeByte_tick {s : State} (hs : s.mem.wf = true) (a : Word) (v : Byte) (n : Nat) :
    ((s.writeByte a v).tick n).readByte a = v ∧ ((s.writeByte a v).tick n).cycles = s.cycles + n ∧
      Frame [.byte a] s ((s.writeByte a v).tick n) := by
  refine ⟨?_, rfl, ((Frame.refl _ s).writeByte hs (.head _) v).tick n⟩
  rw [State.tick_readByte, State.readByte_writeByte hs, if_pos rfl]

theorem loadA_spec (addr : Word) (n : Nat) (s : State) :
    (loadA addr n s).readReg .a = s.readByte addr ∧ (loadA addr n s).cycles = s.cycles + n ∧
      Frame [.reg .a] s (loadA addr n s) :=
  s.writeReg_tick .a (s.readByte addr) n

theorem storeA_spec {s : State} (hs : s.mem.wf = true) (addr : Word) (n : Nat) :
    (storeA addr n s).readByte addr = s.readReg .a ∧ (storeA addr n s).cycles = s.cycles + n ∧
      Frame [.byte addr] s (storeA addr n s) :=
  State.writeByte_tick hs addr (s.readReg .a) n

/-- An address in the page 0xFF00 is 0xFF and the byte (30_encoding.md R99). -/
theorem highPage_eq_wordOf (x : Byte) : highPage x = wordOf 0xFF#8 x := by
  revert x
  decide

/-- A 16-bit immediate stands low byte first (30_encoding.md R99). -/
theorem encodes_wordImmediate {op : Byte} {i : Word → Instr} (h : ∀ hi lo, Encodes [op, lo, hi] (i (wordOf hi lo)))
    (v : Word) : Encodes [op, loByte v, hiByte v] (i v) := by
  have hv := h (hiByte v) (loByte v)
  rwa [wordOf_hiByte_loByte] at hv

/-- LD r,r' is `01 rrr rrr'` (42_loads.md R180). -/
theorem ldRegReg_encodes (r r' : Reg8) :
    Encodes [0x40#8 + 8#8 * r.code + r'.code] (Form.toInstr (.ldRegReg r r')) := by
  intro rest
  cases r <;> cases r' <;> rfl

/-- LD r,d8 is `00 rrr 110` and the byte (42_loads.md R181). -/
theorem ldRegImm_encodes (r : Reg8) (d8 : Byte) :
    Encodes [0x06#8 + 8#8 * r.code, d8] (Form.toInstr (.ldRegImm r d8)) := by
  intro rest
  cases r <;> rfl

/-- LD r,(HL) is `01 rrr 110` (42_loads.md R182). -/
theorem ldRegMem_encodes (r : Reg8) : Encodes [0x46#8 + 8#8 * r.code] (Form.toInstr (.ldRegMem r)) := by
  intro rest
  cases r <;> rfl

/-- LD (HL),r is `01 110 rrr` (42_loads.md R183). -/
theorem ldMemReg_encodes (r : Reg8) : Encodes [0x70#8 + r.code] (Form.toInstr (.ldMemReg r)) := by
  intro rest
  cases r <;> rfl

/-- Settles O32: the three loads write the register alone, each from its source in the old state. -/
theorem loadRegister : Obligations.LoadRegister := by
  intro r r' d8 s
  refine ⟨⟨ldRegReg_encodes r r', ldRegRegOp r r' s, exec_toInstr _ s, ?_⟩,
    ⟨ldRegImm_encodes r d8, ldRegImmOp r d8 s, exec_toInstr _ s, ?_⟩,
    ⟨ldRegMem_encodes r, ldRegMemOp r s, exec_toInstr _ s, ?_⟩⟩
  · exact s.writeReg_tick r (s.readReg r') 1
  · exact s.writeReg_tick r d8 2
  · exact s.writeReg_tick r s.readAtHl 2

/-- Settles O33: both stores write the byte at HL alone. -/
theorem storeAtHl : Obligations.StoreAtHl := by
  intro r d8 s hs
  refine ⟨⟨ldMemReg_encodes r, ldMemRegOp r s, exec_toInstr _ s, ?_⟩,
    ⟨fun _ => rfl, ldMemImmOp d8 s, exec_toInstr (.ldMemImm d8) s, ?_⟩⟩
  · exact State.writeByte_tick hs s.hl (s.readReg r) 2
  · exact State.writeByte_tick hs s.hl d8 3

/-- Settles O34: each load is `loadA` at its address. -/
theorem loadAFromMemory : Obligations.LoadAFromMemory := by
  intro a16 a8 s
  refine ⟨⟨fun _ => rfl, ldABcOp s, exec_toInstr .ldABc s, loadA_spec _ 2 s⟩,
    ⟨fun _ => rfl, ldADeOp s, exec_toInstr .ldADe s, loadA_spec _ 2 s⟩,
    ⟨encodes_wordImmediate (fun _ _ _ => rfl) a16, ldAAddrOp a16 s, exec_toInstr (.ldAAddr a16) s,
      loadA_spec a16 4 s⟩,
    ⟨fun _ => rfl, ldhAImmOp a8 s, exec_toInstr (.ldhAImm a8) s, ?_⟩,
    ⟨fun _ => rfl, ldACOp s, exec_toInstr .ldAC s, ?_⟩⟩
  · rw [← highPage_eq_wordOf]
    exact loadA_spec (highPage a8) 3 s
  · rw [← highPage_eq_wordOf]
    exact loadA_spec (highPage (s.readReg .c)) 2 s

/-- Settles O35: each store is `storeA` at its address. -/
theorem storeAToMemory : Obligations.StoreAToMemory := by
  intro a16 a8 s hs
  refine ⟨⟨fun _ => rfl, ldBcAOp s, exec_toInstr .ldBcA s, storeA_spec hs _ 2⟩,
    ⟨fun _ => rfl, ldDeAOp s, exec_toInstr .ldDeA s, storeA_spec hs _ 2⟩,
    ⟨encodes_wordImmediate (fun _ _ _ => rfl) a16, ldAddrAOp a16 s, exec_toInstr (.ldAddrA a16) s,
      storeA_spec hs a16 4⟩,
    ⟨fun _ => rfl, ldhImmAOp a8 s, exec_toInstr (.ldhImmA a8) s, ?_⟩,
    ⟨fun _ => rfl, ldCAOp s, exec_toInstr .ldCA s, ?_⟩⟩
  · rw [← highPage_eq_wordOf]
    exact storeA_spec hs (highPage a8) 3
  · rw [← highPage_eq_wordOf]
    exact storeA_spec hs (highPage (s.readReg .c)) 2

/-- A store of A, then a new HL: HL is written after the access, and neither write touches the other's part. -/
theorem storeA_setHl_spec {s : State} (hs : s.mem.wf = true) (addr v : Word) (n : Nat) :
    ((storeA addr n s).setHl v).readByte addr = s.readReg .a ∧ ((storeA addr n s).setHl v).hl = v ∧
      ((storeA addr n s).setHl v).cycles = s.cycles + n ∧
      Frame [.byte addr, .reg .h, .reg .l] s ((storeA addr n s).setHl v) := by
  obtain ⟨hread, hcycles, -⟩ := storeA_spec hs addr n
  exact ⟨hread, State.setHl_hl _ v, hcycles, (storeA_frame hs (.head _) n).setHl (List.subset_cons_self ..) v⟩

/-- A load of A, then a new HL: A is neither H nor L. -/
theorem loadA_setHl_spec (addr v : Word) (n : Nat) (s : State) :
    ((loadA addr n s).setHl v).readReg .a = s.readByte addr ∧ ((loadA addr n s).setHl v).hl = v ∧
      ((loadA addr n s).setHl v).cycles = s.cycles + n ∧
      Frame [.reg .a, .reg .h, .reg .l] s ((loadA addr n s).setHl v) := by
  obtain ⟨hread, hcycles, -⟩ := loadA_spec addr n s
  exact ⟨hread, State.setHl_hl _ v, hcycles, (loadA_frame (.head _) addr n s).setHl (List.subset_cons_self ..) v⟩

/-- Settles O36: the access is `storeA` or `loadA` at the old HL, and the step is the old HL plus or minus one; the
decrement is the addition of 65535. -/
theorem hlStepsAfterTheAccess : Obligations.HlStepsAfterTheAccess := by
  intro s
  have hinc : (s.hl + 1#16).toNat = (s.hl.toNat + 1) % 65536 := BitVec.toNat_add ..
  have hdec : (s.hl - 1#16).toNat = (s.hl.toNat + 65535) % 65536 := by bv_omega
  refine ⟨fun hs => ⟨fun _ => rfl, ldHlIncAOp s, exec_toInstr .ldHlIncA s, ?_⟩,
    fun hs => ⟨fun _ => rfl, ldHlDecAOp s, exec_toInstr .ldHlDecA s, ?_⟩,
    ⟨fun _ => rfl, ldAHlIncOp s, exec_toInstr .ldAHlInc s, ?_⟩,
    ⟨fun _ => rfl, ldAHlDecOp s, exec_toInstr .ldAHlDec s, ?_⟩⟩
  · obtain ⟨hread, hhl, hrest⟩ := storeA_setHl_spec hs s.hl (s.hl + 1#16) 2
    exact ⟨hread, (congrArg _ hhl).trans hinc, hrest⟩
  · obtain ⟨hread, hhl, hrest⟩ := storeA_setHl_spec hs s.hl (s.hl - 1#16) 2
    exact ⟨hread, (congrArg _ hhl).trans hdec, hrest⟩
  · obtain ⟨hread, hhl, hrest⟩ := loadA_setHl_spec s.hl (s.hl + 1#16) 2 s
    exact ⟨hread, (congrArg _ hhl).trans hinc, hrest⟩
  · obtain ⟨hread, hhl, hrest⟩ := loadA_setHl_spec s.hl (s.hl - 1#16) 2 s
    exact ⟨hread, (congrArg _ hhl).trans hdec, hrest⟩

end Sys2Proof.Machine
end

section
/-! PROOFS. The 16-bit loads, PUSH and POP (42_loads.md R200 to R202, R204, R205). -/

namespace Sys2Proof.Machine

/-- LD rr,d16 is `00 pp0 001` and the word (42_loads.md R200). -/
theorem ldPairImm_encodes (rr : Pair) (v : Word) :
    Encodes [0x01#8 + 16#8 * rr.code, loByte v, hiByte v] (Form.toInstr (.ldPairImm rr v)) := by
  refine encodes_wordImmediate (i := fun v => Form.toInstr (.ldPairImm rr v)) (fun hi lo rest => ?_) v
  cases rr <;> rfl

/-- PUSH is `11 pp0 101` (42_loads.md R204). -/
theorem push_encodes (qq : StackPair) : Encodes [0xC5#8 + 16#8 * qq.code] (Form.toInstr (.push qq)) := by
  intro rest
  cases qq <;> rfl

/-- POP is `11 pp0 001` (42_loads.md R205). -/
theorem pop_encodes (qq : StackPair) : Encodes [0xC1#8 + 16#8 * qq.code] (Form.toInstr (.pop qq)) := by
  intro rest
  cases qq <;> rfl

/-- The two bytes of a stored word, at different addresses also where the second wraps (20_memory.md R64). -/
theorem State.write16_readByte_both {s : State} (hs : s.mem.wf = true) (a v : Word) :
    (s.write16 a v).readByte a = loByte v ∧ (s.write16 a v).readByte (a + 1#16) = hiByte v := by
  have hne : a ≠ a + 1#16 := by bv_omega
  constructor
  · rw [State.readByte_write16 hs, if_neg hne, if_pos rfl]
  · rw [State.readByte_write16 hs, if_pos rfl]

/-- Settles O37: LD rr,d16 writes the pair alone, LD (a16),SP the two bytes of SP, LD SP,HL SP alone. -/
theorem loadWord : Obligations.LoadWord := by
  intro rr v s
  refine ⟨⟨ldPairImm_encodes rr v, ldPairImmOp rr v s, exec_toInstr _ s, s.writePair_tick rr v 3⟩,
    fun hs => ⟨encodes_wordImmediate (fun _ _ _ => rfl) v, ldAddrSpOp v s, exec_toInstr (.ldAddrSp v) s, ?_⟩,
    ⟨fun _ => rfl, ldSpHlOp s, exec_toInstr .ldSpHl s, rfl, rfl, ?_⟩⟩
  · obtain ⟨hlo, hhi⟩ := State.write16_readByte_both hs v s.sp
    exact ⟨hlo, hhi, rfl, Form.run_frame (f := .ldAddrSp v) rfl fun _ _ => hs⟩
  · exact Form.run_frame (f := .ldSpHl) rfl (by simp [Form.writes])

/-- The low half of AF is F with bits 3..0 zero (10_state.md R25). -/
theorem State.loByte_readStackPair_af_low (s : State) : loByte (s.readStackPair .af) &&& 0x0F#8 = 0#8 := by
  show loByte (wordOf s.a (maskF s.f)) &&& 0x0F#8 = 0#8
  rw [loByte_wordOf, maskF_low]

/-- Settles O38: the bytes read are the branches of `State.push16_readByte`; the low byte of AF is a masked F. -/
theorem pushPair : Obligations.PushPair := by
  intro qq s hs
  have hread := State.push16_readByte hs (s.readStackPair qq)
  have hne : s.sp - 1#16 ≠ s.sp - 2#16 := by bv_omega
  have hhi : (pushOp qq s).readByte (s.sp - 1#16) = hiByte (s.readStackPair qq) := by
    rw [pushOp, State.tick_readByte, hread, if_neg hne, if_pos rfl]
  have hlo : (pushOp qq s).readByte (s.sp - 2#16) = loByte (s.readStackPair qq) := by
    rw [pushOp, State.tick_readByte, hread, if_pos rfl]
  refine ⟨push_encodes qq, pushOp qq s, exec_toInstr _ s, hhi, hlo, fun haf => ?_, s.push16_sp _, rfl,
    Form.run_frame (f := .push qq) rfl fun _ _ => hs⟩
  rw [hlo, haf, State.loByte_readStackPair_af_low]

/-- A stack pair after a write: the value written, for AF with the low half masked (10_state.md R23 to R25). -/
theorem State.writeStackPair_readStackPair (s : State) (qq : StackPair) (v : Word) :
    (s.writeStackPair qq v).readStackPair qq =
      wordOf (hiByte v) (if qq = .af then maskF (loByte v) else loByte v) := by
  cases qq with
  | af => exact congrArg (wordOf (hiByte v)) (maskF_maskF (loByte v))
  | bc | de | hl => rfl

/-- POP's pair of a popped word (42_loads.md R205). -/
theorem popOp_readStackPair (qq : StackPair) (s : State) :
    (popOp qq s).readStackPair qq =
      wordOf (s.readByte (s.sp + 1#16)) (if qq = .af then maskF (s.readByte s.sp) else s.readByte s.sp) := by
  rw [popOp, State.tick_readStackPair, State.writeStackPair_readStackPair, State.pop16_fst, hiByte_wordOf,
    loByte_wordOf]

/-- POP AF puts the low byte, masked, in F (42_loads.md R205). -/
theorem popOp_af_f (s : State) : (popOp .af s).f = maskF (s.readByte s.sp) :=
  congrArg maskF (loByte_wordOf (s.readByte (s.sp + 1#16)) (s.readByte s.sp))

theorem popOp_af_flags (s : State) : (popOp .af s).flags = FlagSet.unpack (s.readByte s.sp) := by
  rw [State.flags, popOp_af_f, FlagSet.unpack_maskF]

/-- Settles O39: the pair is `popOp_readStackPair`; a masked F and the unmasked byte have the same four flags. -/
theorem popPair : Obligations.PopPair := by
  intro qq s lo hi
  refine ⟨pop_encodes qq, popOp qq s, exec_toInstr _ s, popOp_readStackPair qq s, ?_, ?_, ?_, ?_⟩
  · rintro rfl
    exact ⟨popOp_af_f s, popOp_af_flags s⟩
  · rw [popOp, State.tick_sp, State.writeStackPair_sp]
    rfl
  · rw [popOp, State.tick_cycles, State.writeStackPair_cycles]
    rfl
  · refine Form.run_frame (f := .pop qq) rfl ?_
    cases qq <;> simp [Form.writes, stackPairParts, allFlags]

end Sys2Proof.Machine
end

section
/-! PROOFS. Jumps, calls, returns and restarts (43_control.md R220 to R230): a form that is taken jumps, calls or pops,
and one lemma for each of the three holds what it leaves; a form that is not taken only passes time. -/

namespace Sys2Proof.Machine

/-- What a conditional form that is not taken leaves after `n` M-cycles (43_control.md R231). -/
theorem State.tick_spec (s : State) (n : Nat) : (s.tick n).cycles = s.cycles + n ∧ Frame [] s (s.tick n) :=
  ⟨rfl, (Frame.refl [] s).tick n⟩

/-- What a jump that takes `n` M-cycles leaves. -/
theorem State.setPc_tick (s : State) (v : Word) (n : Nat) :
    ((s.setPc v).tick n).pc = v ∧ ((s.setPc v).tick n).cycles = s.cycles + n ∧
      Frame [.pc] s ((s.setPc v).tick n) :=
  ⟨rfl, rfl, ((Frame.refl _ s).setPc (.head _) v).tick n⟩

/-- What a relative jump that takes `n` M-cycles leaves: the target adds the signed offset (43_control.md R223). -/
theorem State.setPc_relativeTarget_tick (s : State) (e8 : Byte) (n : Nat) :
    (((s.setPc (relativeTarget s e8)).tick n).pc.toNat : Int) = (s.pc.toNat + e8.toInt) % 65536 ∧
      ((s.setPc (relativeTarget s e8)).tick n).cycles = s.cycles + n ∧
      Frame [.pc] s ((s.setPc (relativeTarget s e8)).tick n) :=
  ⟨add_signExtend_toNat s.pc e8, (s.setPc_tick (relativeTarget s e8) n).2⟩

/-- What a call or restart that takes `n` M-cycles leaves (43_control.md R225, R230). -/
theorem callTo_tick {s : State} (hs : s.mem.wf = true) (target : Word) (n : Nat) :
    ((callTo target s).tick n).pc = target ∧ ((callTo target s).tick n).sp = s.sp - 2#16 ∧
      ((callTo target s).tick n).readByte (s.sp - 1#16) = hiByte s.pc ∧
      ((callTo target s).tick n).readByte (s.sp - 2#16) = loByte s.pc ∧
      ((callTo target s).tick n).cycles = s.cycles + n ∧
      Frame (.pc :: pushParts s) s ((callTo target s).tick n) := by
  have hread (x : Word) := State.push16_readByte hs s.pc x
  have hne : s.sp - 1#16 ≠ s.sp - 2#16 := by bv_omega
  refine ⟨rfl, s.push16_sp s.pc, ?_, ?_, rfl, (callTo_frame hs target).tick n⟩
  · rw [callTo, State.tick_readByte, State.setPc_readByte, hread, if_neg hne, if_pos rfl]
  · rw [callTo, State.tick_readByte, State.setPc_readByte, hread, if_pos rfl]

/-- What a return that takes `n` M-cycles leaves (43_control.md R227). -/
theorem State.popPc_tick (s : State) (n : Nat) :
    (s.popPc.tick n).pc = wordOf (s.readByte (s.sp + 1#16)) (s.readByte s.sp) ∧
      (s.popPc.tick n).sp = s.sp + 2#16 ∧ (s.popPc.tick n).cycles = s.cycles + n ∧
      Frame [.pc, .sp] s (s.popPc.tick n) :=
  ⟨rfl, rfl, rfl, ((Frame.refl _ s).popPc (.head _) (.tail _ (.head _))).tick n⟩

/-- With P_EI_DELAY = 1 a write of `ime_pending` takes effect (10_state.md R35). -/
theorem State.setPending_imePending_one {s : State} (hd : s.params.eiDelay = .one) (v : Bool) :
    (s.setPending v).imePending = v := by
  rw [State.setPending, hd]

/-- A restart vector is eight times the field (30_encoding.md R99). -/
theorem restartVector_toNat (y : Index8) : (restartVector y).toNat = 8 * y.val := by
  cases y <;> rfl

/-- JP cc,a16 is `110 cc 010` and the word (43_control.md R221). -/
theorem jpCond_encodes (cc : Cond) (a16 : Word) :
    Encodes [0xC2#8 + 8#8 * cc.code, loByte a16, hiByte a16] (Form.toInstr (.jpCond cc a16)) := by
  refine encodes_wordImmediate (i := fun v => Form.toInstr (.jpCond cc v)) (fun hi lo rest => ?_) a16
  cases cc <;> rfl

/-- JR cc,e8 is `001 cc 000` and the offset (43_control.md R224). -/
theorem jrCond_encodes (cc : Cond) (e8 : Byte) :
    Encodes [0x20#8 + 8#8 * cc.code, e8] (Form.toInstr (.jrCond cc e8)) := by
  intro rest
  cases cc <;> rfl

/-- CALL cc,a16 is `110 cc 100` and the word (43_control.md R226). -/
theorem callCond_encodes (cc : Cond) (a16 : Word) :
    Encodes [0xC4#8 + 8#8 * cc.code, loByte a16, hiByte a16] (Form.toInstr (.callCond cc a16)) := by
  refine encodes_wordImmediate (i := fun v => Form.toInstr (.callCond cc v)) (fun hi lo rest => ?_) a16
  cases cc <;> rfl

/-- RET cc is `110 cc 000` (43_control.md R228). -/
theorem retCond_encodes (cc : Cond) : Encodes [0xC0#8 + 8#8 * cc.code] (Form.toInstr (.retCond cc)) := by
  intro rest
  cases cc <;> rfl

/-- RST is `11 yyy 111` (43_control.md R230). -/
theorem rst_encodes (y : Index8) :
    Encodes [0xC7#8 + 8#8 * BitVec.ofNat 8 y.val] (Form.toInstr (.rst y)) := by
  intro rest
  cases y <;> rfl

/-- Settles O40: each taken jump is `State.setPc_tick` at its target. -/
theorem jumps : Obligations.Jumps := by
  intro cc a16 s
  refine ⟨⟨encodes_wordImmediate (fun _ _ _ => rfl) a16, jpOp a16 s, exec_toInstr (.jp a16) s,
      s.setPc_tick a16 4⟩,
    ⟨jpCond_encodes cc a16, jpCondOp cc a16 s, exec_toInstr _ s, fun htaken => ?_, fun hnot => ?_⟩,
    ⟨fun _ => rfl, jpHlOp s, exec_toInstr .jpHl s, s.setPc_tick s.hl 1⟩⟩
  · rw [jpCondOp, if_pos htaken]
    exact s.setPc_tick a16 4
  · rw [jpCondOp, if_neg (Bool.eq_false_iff.mp hnot)]
    exact s.tick_spec 3

/-- Settles O41: each taken jump is `State.setPc_relativeTarget_tick`. -/
theorem relativeJumps : Obligations.RelativeJumps := by
  intro cc e8 s
  refine ⟨⟨fun _ => rfl, jrOp e8 s, exec_toInstr (.jr e8) s, s.setPc_relativeTarget_tick e8 3⟩,
    ⟨jrCond_encodes cc e8, jrCondOp cc e8 s, exec_toInstr _ s, fun htaken => ?_, fun hnot => ?_⟩⟩
  · rw [jrCondOp, if_pos htaken]
    exact s.setPc_relativeTarget_tick e8 3
  · rw [jrCondOp, if_neg (Bool.eq_false_iff.mp hnot)]
    exact s.tick_spec 2

/-- Settles O42: each taken call is `callTo_tick`. -/
theorem calls : Obligations.Calls := by
  intro cc a16 s hs
  refine ⟨⟨encodes_wordImmediate (fun _ _ _ => rfl) a16, callOp a16 s, exec_toInstr (.call a16) s,
      callTo_tick hs a16 6⟩,
    ⟨callCond_encodes cc a16, callCondOp cc a16 s, exec_toInstr _ s, fun htaken => ?_, fun hnot => ?_⟩⟩
  · rw [callCondOp, if_pos htaken]
    exact callTo_tick hs a16 6
  · rw [callCondOp, if_neg (Bool.eq_false_iff.mp hnot)]
    exact s.tick_spec 3

/-- RETI pops PC as RET does and enables interrupts at once, so no enable stays pending (43_control.md R229). -/
theorem retiOp_spec (s : State) :
    (retiOp s).pc = wordOf (s.readByte (s.sp + 1#16)) (s.readByte s.sp) ∧ (retiOp s).sp = s.sp + 2#16 ∧
      (retiOp s).ime = true ∧ (s.params.eiDelay = .one → (retiOp s).imePending = false) ∧
      (retiOp s).cycles = s.cycles + 4 ∧ Frame [.pc, .sp, .ime, .imePending] s (retiOp s) := by
  refine ⟨?_, ?_, ?_, fun hd => State.setPending_imePending_one (s := s.popPc.setIme true) hd false, ?_,
    Form.run_frame (f := .reti) rfl (by simp [Form.writes])⟩
  · rw [retiOp, State.tick_pc, State.returnFromInterrupt, State.setPending_pc, State.setIme_pc, State.popPc_pc]
  · rw [retiOp, State.tick_sp, State.returnFromInterrupt, State.setPending_sp, State.setIme_sp, State.popPc_sp]
  · rw [retiOp, State.tick_ime, State.returnFromInterrupt, State.setPending_ime, State.setIme_ime]
  · rw [retiOp, State.tick_cycles, State.returnFromInterrupt, State.setPending_cycles, State.setIme_cycles,
      State.popPc_cycles]

/-- Settles O43: each taken return is `State.popPc_tick`, and RETI is `retiOp_spec`. -/
theorem returns : Obligations.Returns := by
  intro cc s target
  refine ⟨⟨fun _ => rfl, retOp s, exec_toInstr .ret s, s.popPc_tick 4⟩,
    ⟨retCond_encodes cc, retCondOp cc s, exec_toInstr _ s, fun htaken => ?_, fun hnot => ?_⟩,
    ⟨fun _ => rfl, retiOp s, exec_toInstr .reti s, retiOp_spec s⟩⟩
  · rw [retCondOp, if_pos htaken]
    exact s.popPc_tick 5
  · rw [retCondOp, if_neg (Bool.eq_false_iff.mp hnot)]
    exact s.tick_spec 2

/-- Settles O44: a restart is `callTo_tick` at the vector, which is eight times the field. -/
theorem restart : Obligations.Restart := by
  intro y s hs
  obtain ⟨hpc, hrest⟩ := callTo_tick hs (restartVector y) 4
  exact ⟨rst_encodes y, rstOp y s, exec_toInstr _ s, (congrArg _ hpc).trans (restartVector_toNat y), hrest⟩

end Sys2Proof.Machine
end

section
/-! PROOFS. Rotates and shifts (44_rotate_shift.md R240 to R260): what `rotateByte` computes, as arithmetic, for all
eight operations, and one lemma each on an instruction that writes a register or a byte of memory together with the flags. -/

namespace Sys2Proof.Machine

/-- Numbers whose bits lie apart are combined by addition. -/
theorem or_toNat_of_dvd_of_lt {hi lo : Byte} (k : Nat) (hhi : 2 ^ k ∣ hi.toNat) (hlo : lo.toNat < 2 ^ k) :
    (hi ||| lo).toNat = hi.toNat + lo.toNat := by
  obtain ⟨m, hm⟩ := hhi
  rw [BitVec.toNat_or, hm, Nat.two_pow_add_eq_or_of_lt hlo]

theorem getLsbD_seven_eq_decide (v : Byte) : v.getLsbD 7 = decide (v.toNat ≥ 128) :=
  BitVec.msb_eq_decide v

theorem getLsbD_zero_eq_decide (v : Byte) : v.getLsbD 0 = decide (v.toNat % 2 = 1) :=
  Nat.testBit_zero v.toNat

theorem getLsbD_seven_toNat (v : Byte) : (v.getLsbD 7).toNat = v.toNat / 128 := by
  have hbit : (v.getLsbD 7).toNat = v.toNat / 128 % 2 := Nat.toNat_testBit v.toNat 7
  have hv := v.isLt
  omega

theorem getLsbD_zero_toNat (v : Byte) : (v.getLsbD 0).toNat = v.toNat % 2 := by
  rw [getLsbD_zero_eq_decide]
  rcases Nat.mod_two_eq_zero_or_one v.toNat with h | h <;> rw [h] <;> rfl

theorem shiftLeft_one_toNat (v : Byte) : (v <<< 1).toNat = 2 * v.toNat % 256 := by
  rw [BitVec.toNat_shiftLeft, Nat.shiftLeft_eq, Nat.mul_comm]

theorem ushiftRight_one_toNat (v : Byte) : (v >>> 1).toNat = v.toNat / 2 :=
  BitVec.toNat_ushiftRight v 1

/-- A bit as a byte, in bit 0. -/
theorem ofNat_bit_toNat (b : Bool) : (BitVec.ofNat 8 b.toNat).toNat = b.toNat := by
  cases b <;> rfl

/-- A bit as a byte, in bit 7. -/
theorem ofNat_bit_shiftLeft_toNat (b : Bool) : (BitVec.ofNat 8 b.toNat <<< 7).toNat = 128 * b.toNat := by
  cases b <;> rfl

/-- A shift left with a bit that enters at bit 0. -/
theorem shiftLeft_or_bit_toNat (v : Byte) (b : Bool) :
    ((v <<< 1) ||| BitVec.ofNat 8 b.toNat).toNat = 2 * v.toNat % 256 + b.toNat := by
  rw [or_toNat_of_dvd_of_lt 1, shiftLeft_one_toNat, ofNat_bit_toNat]
  · rw [shiftLeft_one_toNat]
    omega
  · rw [ofNat_bit_toNat]
    exact b.toNat_lt

/-- A shift right with a bit that enters at bit 7. -/
theorem ushiftRight_or_bit_toNat (v : Byte) (b : Bool) :
    ((v >>> 1) ||| (BitVec.ofNat 8 b.toNat <<< 7)).toNat = v.toNat / 2 + 128 * b.toNat := by
  rw [BitVec.or_comm, or_toNat_of_dvd_of_lt 7, ushiftRight_one_toNat, ofNat_bit_shiftLeft_toNat, Nat.add_comm]
  · rw [ofNat_bit_shiftLeft_toNat]
    exact Nat.dvd_mul_right ..
  · rw [ushiftRight_one_toNat]
    have hv := v.isLt
    omega

/-- Bit 7 where it stands is bit 7 moved there: SRA keeps the sign that RRC would bring in (44_rotate_shift.md R255). -/
theorem and_0x80_eq (v : Byte) : v &&& 0x80#8 = BitVec.ofNat 8 (v.getLsbD 7).toNat <<< 7 := by
  revert v
  decide

/-- The two digits exchanged (44_rotate_shift.md R257). -/
theorem swapDigits_toNat (v : Byte) : ((v <<< 4) ||| (v >>> 4)).toNat = 16 * (v.toNat % 16) + v.toNat / 16 := by
  have hv := v.isLt
  have hhi : (v <<< 4).toNat = 16 * (v.toNat % 16) := by
    rw [BitVec.toNat_shiftLeft, Nat.shiftLeft_eq]
    omega
  have hlo : (v >>> 4).toNat = v.toNat / 16 := by
    rw [BitVec.toNat_ushiftRight, Nat.shiftRight_eq_div_pow]
  rw [or_toNat_of_dvd_of_lt 4, hhi, hlo]
  · exact hhi ▸ Nat.dvd_mul_right ..
  · rw [hlo]
    omega

/-- The value of each operation in arithmetic (44_rotate_shift.md R245 to R260). -/
theorem rotateByte_fst_toNat (op : RotOp) (v : Byte) (carry : Bool) :
    (rotateByte op v carry).1.toNat = rotateValue op v.toNat carry.toNat := by
  cases op with
  | rlc => exact (shiftLeft_or_bit_toNat v _).trans (by rw [getLsbD_seven_toNat]; rfl)
  | rrc => exact (ushiftRight_or_bit_toNat v _).trans (by rw [getLsbD_zero_toNat]; rfl)
  | rl => exact shiftLeft_or_bit_toNat v carry
  | rr => exact ushiftRight_or_bit_toNat v carry
  | sla => exact shiftLeft_one_toNat v
  | sra =>
    show ((v >>> 1) ||| (v &&& 0x80#8)).toNat = v.toNat / 2 + 128 * (v.toNat / 128)
    rw [and_0x80_eq, ushiftRight_or_bit_toNat, getLsbD_seven_toNat]
  | swap => exact swapDigits_toNat v
  | srl => exact ushiftRight_one_toNat v

/-- The bit each operation moves out (44_rotate_shift.md R245 to R260). -/
theorem rotateByte_snd (op : RotOp) (v : Byte) (carry : Bool) :
    (rotateByte op v carry).2 = rotateOut op v.toNat := by
  cases op with
  | rlc | rl | sla => exact getLsbD_seven_eq_decide v
  | rrc | rr | sra | srl => exact getLsbD_zero_eq_decide v
  | swap => rfl

/-- The flags of a CB rotate or shift (44_rotate_shift.md R240). -/
theorem rotateFlags_rotateByte (op : RotOp) (v : Byte) (carry : Bool) :
    rotateFlags (rotateByte op v carry).1 (rotateByte op v carry).2 =
      { z := decide (rotateValue op v.toNat carry.toNat = 0), n := false, h := false
        c := rotateOut op v.toNat } := by
  rw [rotateFlags, beq_zero_eq_decide_toNat, rotateByte_fst_toNat, rotateByte_snd]

/-- What an instruction that writes one register and the flags and takes `n` M-cycles leaves. -/
theorem State.writeReg_setFlags_tick (s : State) (r : Reg8) (v : Byte) (fs : FlagSet) (n : Nat) :
    (((s.writeReg r v).setFlags fs).tick n).readReg r = v ∧ (((s.writeReg r v).setFlags fs).tick n).flags = fs ∧
      (((s.writeReg r v).setFlags fs).tick n).cycles = s.cycles + n ∧
      Frame (.reg r :: allFlags) s (((s.writeReg r v).setFlags fs).tick n) := by
  refine ⟨?_, ?_, ?_, (((Frame.refl _ s).writeReg (by simp)).setFlags (by simp [allFlags])).tick n⟩
  · rw [State.tick_readReg, State.setFlags_readReg, State.writeReg_readReg, if_pos rfl]
  · rw [State.tick_flags, State.setFlags_flags]
  · rw [State.tick_cycles, State.setFlags_cycles, State.writeReg_cycles]

/-- What an instruction that stores one byte, writes the flags and takes `n` M-cycles leaves. -/
theorem State.writeByte_setFlags_tick {s : State} (hs : s.mem.wf = true) (a : Word) (v : Byte) (fs : FlagSet)
    (n : Nat) :
    (((s.writeByte a v).setFlags fs).tick n).readByte a = v ∧
      (((s.writeByte a v).setFlags fs).tick n).flags = fs ∧
      (((s.writeByte a v).setFlags fs).tick n).cycles = s.cycles + n ∧
      Frame (.byte a :: allFlags) s (((s.writeByte a v).setFlags fs).tick n) := by
  refine ⟨?_, ?_, rfl, (((Frame.refl _ s).writeByte hs (.head _) v).setFlags (by simp [allFlags])).tick n⟩
  · rw [State.tick_readByte, State.setFlags_readByte, State.readByte_writeByte hs, if_pos rfl]
  · rw [State.tick_flags, State.setFlags_flags]

/-- A CB rotate or shift of a register is `00 ooo rrr` after 0xCB (30_encoding.md R98, R102). -/
theorem rotReg_encodes (op : RotOp) (r : Reg8) :
    Encodes [0xCB#8, 8#8 * op.code + r.code] (Form.toInstr (.rotReg op r)) := by
  intro rest
  cases op <;> cases r <;> rfl

/-- A CB rotate or shift of the byte at HL is `00 ooo 110` after 0xCB (30_encoding.md R98, R102). -/
theorem rotMem_encodes (op : RotOp) : Encodes [0xCB#8, 8#8 * op.code + 6#8] (Form.toInstr (.rotMem op)) := by
  intro rest
  cases op <;> rfl

/-- What an accumulator rotate leaves, Z always 0 (44_rotate_shift.md R241 to R244). -/
theorem accRotate_spec (op : RotOp) (s : State) :
    ((accRotate op s).readReg .a).toNat = rotateValue op (s.readReg .a).toNat s.flags.c.toNat ∧
      (accRotate op s).flags =
        { z := false, n := false, h := false, c := rotateOut op (s.readReg .a).toNat } ∧
      (accRotate op s).cycles = s.cycles + 1 ∧ Frame (.reg .a :: allFlags) s (accRotate op s) := by
  rw [← rotateByte_fst_toNat, ← rotateByte_snd op (s.readReg .a) s.flags.c]
  exact (s.writeReg_setFlags_tick .a _ _ _).imp_left (congrArg BitVec.toNat)

/-- What a CB rotate or shift of a register leaves (44_rotate_shift.md R240). -/
theorem rotRegOp_spec (op : RotOp) (r : Reg8) (s : State) :
    ((rotRegOp op r s).readReg r).toNat = rotateValue op (s.readReg r).toNat s.flags.c.toNat ∧
      (rotRegOp op r s).flags =
        { z := decide (rotateValue op (s.readReg r).toNat s.flags.c.toNat = 0), n := false, h := false
          c := rotateOut op (s.readReg r).toNat } ∧
      (rotRegOp op r s).cycles = s.cycles + 2 ∧ Frame (.reg r :: allFlags) s (rotRegOp op r s) := by
  rw [← rotateFlags_rotateByte, ← rotateByte_fst_toNat]
  exact (s.writeReg_setFlags_tick r _ _ _).imp_left (congrArg BitVec.toNat)

/-- What a CB rotate or shift of the byte at HL leaves (44_rotate_shift.md R240). -/
theorem rotMemOp_spec (op : RotOp) {s : State} (hs : s.mem.wf = true) :
    ((rotMemOp op s).readByte s.hl).toNat = rotateValue op (s.readByte s.hl).toNat s.flags.c.toNat ∧
      (rotMemOp op s).flags =
        { z := decide (rotateValue op (s.readByte s.hl).toNat s.flags.c.toNat = 0), n := false, h := false
          c := rotateOut op (s.readByte s.hl).toNat } ∧
      (rotMemOp op s).cycles = s.cycles + 4 ∧ Frame (.byte s.hl :: allFlags) s (rotMemOp op s) := by
  rw [← rotateFlags_rotateByte, ← rotateByte_fst_toNat]
  exact (State.writeByte_setFlags_tick hs s.hl _ _ _).imp_left (congrArg BitVec.toNat)

/-- Settles O46: each of the four is `accRotate` of its operation. -/
theorem rotateAccumulator : Obligations.RotateAccumulator := by
  intro s v c does
  exact ⟨⟨fun _ => rfl, rlcaOp s, exec_toInstr .rlca s, accRotate_spec .rlc s⟩,
    ⟨fun _ => rfl, rrcaOp s, exec_toInstr .rrca s, accRotate_spec .rrc s⟩,
    ⟨fun _ => rfl, rlaOp s, exec_toInstr .rla s, accRotate_spec .rl s⟩,
    ⟨fun _ => rfl, rraOp s, exec_toInstr .rra s, accRotate_spec .rr s⟩⟩

/-- Settles O47: `rotRegOp_spec` of each operation and register. -/
theorem rotateRegister : Obligations.RotateRegister := by
  intro op r s _ v res
  exact ⟨rotReg_encodes op r, rotRegOp op r s, exec_toInstr _ s, rotRegOp_spec op r s⟩

/-- Settles O48: `rotMemOp_spec` of each operation. -/
theorem rotateMemory : Obligations.RotateMemory := by
  intro op s _ hs v res
  exact ⟨rotMem_encodes op, rotMemOp op s, exec_toInstr _ s, rotMemOp_spec op hs⟩

end Sys2Proof.Machine
end

section
/-! PROOFS. Bit operations (45_bit.md R270 to R275): the rows of the extended table they stand in, what `clearBit` and
`setBit` do bit by bit, and one lemma on an instruction that writes the flags of BIT. -/

namespace Sys2Proof

/-- The byte after 0xCB is decoded by the extended table alone (30_encoding.md R97, R102). -/
theorem encodes_decodeCb (cb : Byte) : Encodes [0xCB#8, cb] (decodeCb cb).toInstr :=
  fun _ => rfl

/-- BIT, RES and SET of a register are `gg bbb rrr` with g = 1, 2 and 3 (30_encoding.md R97, R102). -/
theorem decodeCb_bitReg_resReg_setReg (b : Index8) (r : Reg8) :
    decodeCb (0x40#8 + 8#8 * BitVec.ofNat 8 b.val + r.code) = .bitReg b r ∧
      decodeCb (0x80#8 + 8#8 * BitVec.ofNat 8 b.val + r.code) = .resReg b r ∧
      decodeCb (0xC0#8 + 8#8 * BitVec.ofNat 8 b.val + r.code) = .setReg b r := by
  cases b <;> cases r <;> exact ⟨rfl, rfl, rfl⟩

/-- BIT, RES and SET of the byte at HL are `gg bbb 110` with g = 1, 2 and 3 (30_encoding.md R97, R102). -/
theorem decodeCb_bitMem_resMem_setMem (b : Index8) :
    decodeCb (0x46#8 + 8#8 * BitVec.ofNat 8 b.val) = .bitMem b ∧
      decodeCb (0x86#8 + 8#8 * BitVec.ofNat 8 b.val) = .resMem b ∧
      decodeCb (0xC6#8 + 8#8 * BitVec.ofNat 8 b.val) = .setMem b := by
  cases b <;> exact ⟨rfl, rfl, rfl⟩

theorem encodes_of_decodeCb {cb : Byte} {f : Form} (h : decodeCb cb = f) : Encodes [0xCB#8, cb] f.toInstr :=
  h ▸ encodes_decodeCb cb

theorem Index8.val_lt (b : Index8) : b.val < 8 := by
  cases b <;> decide

namespace Machine

/-- The mask of RES and SET has one bit (45_bit.md R272, R274). -/
theorem one_shiftLeft_getLsbD (b : Index8) (k : Nat) : (1#8 <<< b.val).getLsbD k = decide (b.val = k) := by
  have hmask : (1#8 <<< b.val).getLsbD k = (decide (b.val < 8) && decide (b.val = k)) :=
    BitVec.getLsbD_twoPow b.val k
  rw [hmask, decide_eq_true b.val_lt, Bool.true_and]

/-- RES clears bit b and keeps the others (45_bit.md R272). -/
theorem getLsbD_of_eq_clearBit {v w : Byte} {b : Index8} (hw : w = clearBit v b) (k : Nat) (hk : k < 8) :
    w.getLsbD k = if k = b.val then false else v.getLsbD k := by
  rw [hw, clearBit, BitVec.getLsbD_and, BitVec.getLsbD_not, one_shiftLeft_getLsbD]
  by_cases hkb : k = b.val
  · simp [hkb]
  · simp [hk, hkb, Ne.symm hkb]

/-- SET sets bit b and keeps the others (45_bit.md R274). -/
theorem getLsbD_of_eq_setBit {v w : Byte} {b : Index8} (hw : w = setBit v b) (k : Nat) (_ : k < 8) :
    w.getLsbD k = if k = b.val then true else v.getLsbD k := by
  rw [hw, setBit, BitVec.getLsbD_or, one_shiftLeft_getLsbD]
  by_cases hkb : k = b.val
  · simp [hkb]
  · simp [hkb, Ne.symm hkb]

/-- What a BIT that takes `n` M-cycles leaves (45_bit.md R270). -/
theorem State.setFlags_bitFlags_tick (s : State) (v : Byte) (b : Index8) (n : Nat) :
    ((s.setFlags (bitFlags v b s.flags)).tick n).flags =
        { z := !v.getLsbD b.val, n := false, h := true, c := s.flags.c } ∧
      ((s.setFlags (bitFlags v b s.flags)).tick n).cycles = s.cycles + n ∧
      Frame [.z, .n, .h] s ((s.setFlags (bitFlags v b s.flags)).tick n) := by
  refine ⟨?_, rfl, ((Frame.refl _ s).setFlags (by simp [bitFlags])).tick n⟩
  rw [State.tick_flags, State.setFlags_flags, bitFlags]

/-- Settles O50: both forms are `State.setFlags_bitFlags_tick` of their operand. -/
theorem testBit : Obligations.TestBit := by
  intro b r s
  obtain ⟨hreg, -, -⟩ := decodeCb_bitReg_resReg_setReg b r
  obtain ⟨hmem, -, -⟩ := decodeCb_bitMem_resMem_setMem b
  exact ⟨⟨encodes_of_decodeCb hreg, bitRegOp b r s, exec_toInstr _ s, s.setFlags_bitFlags_tick (s.readReg r) b 2⟩,
    ⟨encodes_of_decodeCb hmem, bitMemOp b s, exec_toInstr _ s, s.setFlags_bitFlags_tick (s.readByte s.hl) b 3⟩⟩

/-- Settles O51: each form writes `clearBit` or `setBit` of its operand back (`State.writeReg_tick`,
`State.writeByte_tick`), and of that byte only bit b can differ. -/
theorem resetAndSetBit : Obligations.ResetAndSetBit := by
  refine ⟨fun b r s => ?_, fun b s hs => ?_⟩
  · obtain ⟨-, hres, hset⟩ := decodeCb_bitReg_resReg_setReg b r
    refine ⟨⟨encodes_of_decodeCb hres, resRegOp b r s, exec_toInstr _ s, ?_⟩,
      ⟨encodes_of_decodeCb hset, setRegOp b r s, exec_toInstr _ s, ?_⟩⟩
    · exact (s.writeReg_tick r (clearBit (s.readReg r) b) 2).imp_left getLsbD_of_eq_clearBit
    · exact (s.writeReg_tick r (setBit (s.readReg r) b) 2).imp_left getLsbD_of_eq_setBit
  · obtain ⟨-, hres, hset⟩ := decodeCb_bitMem_resMem_setMem b
    refine ⟨⟨encodes_of_decodeCb hres, resMemOp b s, exec_toInstr _ s, ?_⟩,
      ⟨encodes_of_decodeCb hset, setMemOp b s, exec_toInstr _ s, ?_⟩⟩
    · exact (State.writeByte_tick hs s.hl (clearBit (s.readByte s.hl) b) 4).imp_left getLsbD_of_eq_clearBit
    · exact (State.writeByte_tick hs s.hl (setBit (s.readByte s.hl) b) 4).imp_left getLsbD_of_eq_setBit

end Machine

end Sys2Proof
end

section
/-! PROOFS. NOP, HALT, STOP, CPL, SCF and CCF (46_misc.md R280 to R282, R286 to R288): HALT and STOP suspend the core,
with one lemma for both; SCF and CCF write every flag but Z, with one lemma for both. -/

namespace Sys2Proof.Machine

/-- A core that is not Running idles (30_encoding.md R108). -/
theorem step_of_run_ne_running {s : State} (h : s.run ≠ .running) : step s = .next s.idle := by
  cases hr : s.run with
  | running => exact absurd hr h
  | halted => exact step_halted hr
  | stopped => exact step_stopped hr

/-- What an instruction that suspends the core and takes `n` M-cycles leaves: its next step idles, and the wake input
sets Running (46_misc.md R281, R282). -/
theorem State.setRun_tick_suspended (s : State) {r : RunState} (hr : r ≠ .running) (n : Nat) :
    ((s.setRun r).tick n).run = r ∧ ((s.setRun r).tick n).cycles = s.cycles + n ∧
      Frame [.run] s ((s.setRun r).tick n) ∧
      step ((s.setRun r).tick n) =
        .next { (s.setRun r).tick n with cycles := ((s.setRun r).tick n).cycles + 1 } ∧
      drive .wake ((s.setRun r).tick n) = .next { (s.setRun r).tick n with run := .running } :=
  ⟨rfl, rfl, ((Frame.refl _ s).setRun (.head _) r).tick n, step_of_run_ne_running hr, rfl⟩

/-- Settles O52: NOP only passes time, and HALT and STOP are `State.setRun_tick_suspended`. -/
theorem nopHaltStop : Obligations.NopHaltStop := by
  intro b1 s
  exact ⟨⟨fun _ => rfl, nopOp s, exec_toInstr .nop s, s.tick_spec 1⟩,
    ⟨fun _ => rfl, haltOp s, exec_toInstr .halt s, s.setRun_tick_suspended (r := .halted) (by decide) 1⟩,
    ⟨fun _ => rfl, stopOp b1 s, exec_toInstr (.stop b1) s, s.setRun_tick_suspended (r := .stopped) (by decide) 1⟩⟩

/-- The complement of a byte is its difference from 255 (46_misc.md R286). -/
theorem xor_0xFF_toNat (v : Byte) : (v ^^^ 0xFF#8).toNat = 255 - v.toNat :=
  calc (v ^^^ 0xFF#8).toNat = (~~~v).toNat := congrArg BitVec.toNat BitVec.xor_allOnes
    _ = 255 - v.toNat := BitVec.toNat_not

/-- What CPL leaves: Z and C are written with the values they had (46_misc.md R286). -/
theorem cplOp_spec (s : State) :
    ((cplOp s).readReg .a).toNat = 255 - (s.readReg .a).toNat ∧
      (cplOp s).flags = { z := s.flags.z, n := true, h := true, c := s.flags.c } ∧
      (cplOp s).cycles = s.cycles + 1 ∧ Frame [.reg .a, .n, .h] s (cplOp s) := by
  obtain ⟨ha, hflags, hcycles, -⟩ :=
    s.writeReg_setFlags_tick .a (s.readReg .a ^^^ 0xFF#8) { s.flags with n := true, h := true } 1
  exact ⟨(congrArg BitVec.toNat ha).trans (xor_0xFF_toNat _), hflags, hcycles,
    (((Frame.refl _ s).writeReg (by simp)).setFlags (by simp)).tick 1⟩

/-- What an instruction that writes every flag but Z and takes `n` M-cycles leaves. -/
theorem State.setFlags_keepZ_tick (s : State) (n' h' c' : Bool) (n : Nat) :
    ((s.setFlags { s.flags with n := n', h := h', c := c' }).tick n).flags =
        { z := s.flags.z, n := n', h := h', c := c' } ∧
      ((s.setFlags { s.flags with n := n', h := h', c := c' }).tick n).cycles = s.cycles + n ∧
      Frame [.n, .h, .c] s ((s.setFlags { s.flags with n := n', h := h', c := c' }).tick n) := by
  refine ⟨?_, rfl, ((Frame.refl _ s).setFlags (by simp)).tick n⟩
  rw [State.tick_flags, State.setFlags_flags]

/-- Settles O57: CPL is `cplOp_spec`, and SCF and CCF are `State.setFlags_keepZ_tick`. -/
theorem complementAndCarryFlag : Obligations.ComplementAndCarryFlag := by
  intro s
  exact ⟨⟨fun _ => rfl, cplOp s, exec_toInstr .cpl s, cplOp_spec s⟩,
    ⟨fun _ => rfl, scfOp s, exec_toInstr .scf s, s.setFlags_keepZ_tick false false true 1⟩,
    ⟨fun _ => rfl, ccfOp s, exec_toInstr .ccf s, s.setFlags_keepZ_tick false false (!s.flags.c) 1⟩⟩

end Sys2Proof.Machine
end

section
/-! PROOFS. Illegal bytes, the writers of ime and interrupt entry (60_exceptions.md R301, R307, R308). What each form
does to ime is said directly, since `Form.run_frame` asks for a canonical memory where a form stores a byte. -/

namespace Sys2Proof

/-- An unmapped byte decodes to R101's error, whatever follows it: the converse of `decodeBytes_illegal`. -/
theorem decodeBytes_of_mem_illegalOpcodes {b0 : Byte} (h : b0 ∈ illegalOpcodes) (b1 b2 : Byte) :
    decodeBytes b0 b1 b2 = .illegal b0 := by
  simp only [illegalOpcodes, List.mem_cons, List.not_mem_nil, or_false] at h
  rcases h with rfl | rfl | rfl | rfl | rfl | rfl | rfl | rfl | rfl | rfl | rfl <;> rfl

namespace Machine

/-- Settles O8: an unmapped byte is fetched as the error term, and `exec` of any other term has a next state
(`exec_cases`). -/
theorem stepFaultsExactlyOnTheElevenBytes : Obligations.StepFaultsExactlyOnTheElevenBytes := by
  intro s hrun
  have hstep := step_running hrun
  obtain ⟨b1, b2, hinstr⟩ := s.fetchDecode_instr s.pc
  rw [hinstr] at hstep
  refine ⟨fun hmem => ?_, fun hmem => ?_⟩
  · rw [hstep, decodeBytes_of_mem_illegalOpcodes hmem]
    rfl
  · rcases exec_cases (decodeBytes (s.readByte s.pc) b1 b2) (s.advance (s.fetchDecode s.pc).2) with
      ⟨u, hu⟩ | ⟨b, hb, -⟩
    · rw [hu] at hstep
      exact ⟨State.completeEi s u, hstep⟩
    · exact absurd (decodeBytes_illegal hb).2 hmem

/-- Interrupt entry is refused while ime = 0 (60_exceptions.md R307). -/
theorem State.interruptEntry_of_ime_false {s : State} (h : s.ime = false) (v : Word) :
    s.interruptEntry v = .refused .interruptsDisabled := by
  rw [State.interruptEntry, if_pos h]

/-- While ime = 1 an address of P_INTERRUPT_VECTORS is entered (60_exceptions.md R308, R309). -/
theorem State.interruptEntry_of_mem {s : State} {v : Word} (h : s.ime = true) (hv : v ∈ s.params.interruptVectors) :
    s.interruptEntry v = .next (s.takeInterrupt v) := by
  rw [State.interruptEntry, if_neg (by simp [h]), if_pos hv]

/-- An interrupt entry that is not refused is `State.takeInterrupt`. -/
theorem State.eq_takeInterrupt_of_interruptEntry {s t : State} {v : Word} (h : s.interruptEntry v = .next t) :
    t = s.takeInterrupt v := by
  unfold State.interruptEntry at h
  split at h
  · cases h
  · split at h <;> cases h
    rfl

/-- Interrupt entry writes 0 to ime (60_exceptions.md R307). -/
theorem State.takeInterrupt_ime (s : State) (v : Word) : (s.takeInterrupt v).ime = false := by
  simp [State.takeInterrupt]

/-- Interrupt entry calls the vector from the state with interrupts disabled and the core Running (60_exceptions.md
R308). -/
theorem State.takeInterrupt_eq_callTo (s : State) (v : Word) :
    s.takeInterrupt v = (callTo v (((s.setIme false).setPending false).setRun .running)).tick 5 :=
  rfl

/-- What interrupt entry leaves: `callTo_tick` for the stack, PC and the cycles, and the three control fields. -/
theorem State.takeInterrupt_spec {s : State} (hs : s.mem.wf = true) (v : Word) :
    (s.takeInterrupt v).ime = false ∧
      (s.params.eiDelay = .one → (s.takeInterrupt v).imePending = false) ∧ (s.takeInterrupt v).run = .running ∧
      (s.takeInterrupt v).readByte (s.sp - 1#16) = hiByte s.pc ∧
      (s.takeInterrupt v).readByte (s.sp - 2#16) = loByte s.pc ∧
      (s.takeInterrupt v).sp = s.sp - 2#16 ∧ (s.takeInterrupt v).pc = v ∧
      (s.takeInterrupt v).cycles = s.cycles + 5 ∧
      Frame (.ime :: .imePending :: .run :: .pc :: pushParts s) s (s.takeInterrupt v) := by
  have hs' : (((s.setIme false).setPending false).setRun .running).mem.wf = true := by simpa using hs
  obtain ⟨hpc, hsp, hhi, hlo, hcycles, -⟩ := callTo_tick hs' v 5
  rw [← State.takeInterrupt_eq_callTo s v] at hpc hsp hhi hlo hcycles
  simp only [State.setRun_sp, State.setRun_pc, State.setRun_cycles, State.setPending_sp, State.setPending_pc,
    State.setPending_cycles, State.setIme_sp, State.setIme_pc, State.setIme_cycles] at hsp hhi hlo hcycles
  refine ⟨s.takeInterrupt_ime v, fun hd => ?_, rfl, hhi, hlo, hsp, hpc, hcycles, ?_⟩
  · simpa [State.takeInterrupt] using State.setPending_imePending_one (s := s.setIme false) hd false
  · have hcontrol : Frame (.ime :: .imePending :: .run :: .pc :: pushParts s) s
        (((s.setIme false).setPending false).setRun .running) :=
      (((Frame.refl _ s).setIme (by simp) _).setPending (by simp) _).setRun (by simp) _
    exact ((hcontrol.push16 hs' (by simp [pushParts]) _).setPc (by simp) v).tick 5

/-- Settles O58: an entry that is permitted is `State.takeInterrupt`, which `State.takeInterrupt_spec` describes. -/
theorem interruptEntry : Obligations.InterruptEntry := by
  refine fun s v => ⟨fun hs hime hv => ?_, fun hime => State.interruptEntry_of_ime_false hime v⟩
  exact ⟨s.takeInterrupt v, State.interruptEntry_of_mem hime hv, State.takeInterrupt_spec hs v⟩

/-- The forms that write ime are DI, EI and RETI, each with its value (60_exceptions.md R307). -/
theorem Form.run_ime {f : Form} {s t : State} (h : Form.run f s = .next t) :
    t.ime = s.ime ∨ (f = .di ∧ t.ime = false) ∨ (f = .ei ∧ t.ime = true) ∨ (f = .reti ∧ t.ime = true) := by
  cases f <;> cases h
  case di => exact .inr (.inl ⟨rfl, by simp [diOp]⟩)
  case ei =>
    cases hd : s.params.eiDelay with
    | zero => exact .inr (.inr (.inl ⟨rfl, by simp [eiOp, hd]⟩))
    | one => exact .inl (by simp [eiOp, hd])
  case reti =>
    obtain ⟨-, -, hime, -⟩ := retiOp_spec s
    exact .inr (.inr (.inr ⟨rfl, hime⟩))
  case incReg | decReg | ldRegReg | ldRegImm | ldRegMem | rotReg | resReg | setReg =>
    exact .inl (State.writeReg_ime s _ _)
  case incPair | decPair | ldPairImm => exact .inl (State.writePair_ime s _ _)
  case pop => exact .inl (State.writeStackPair_ime _ _ _)
  case jpCond | jrCond | callCond | retCond =>
    refine .inl ?_
    dsimp only [jpCondOp, jrCondOp, callCondOp, retCondOp]
    split <;> rfl
  all_goals exact .inl rfl

/-- The instructions that write ime (60_exceptions.md R307). -/
theorem exec_ime {i : Instr} {s t : State} (h : exec i s = .next t) :
    t.ime = s.ime ∨ (i = .di ∧ t.ime = false) ∨ (i = .ei ∧ t.ime = true) ∨ (i = .reti ∧ t.ime = true) := by
  rw [exec_eq_run] at h
  rw [← i.toInstr_form]
  obtain hkept | ⟨hf, hime⟩ | ⟨hf, hime⟩ | ⟨hf, hime⟩ := Form.run_ime h
  · exact .inl hkept
  · exact .inr (.inl ⟨congrArg Form.toInstr hf, hime⟩)
  · exact .inr (.inr (.inl ⟨congrArg Form.toInstr hf, hime⟩))
  · exact .inr (.inr (.inr ⟨congrArg Form.toInstr hf, hime⟩))

/-- What `State.pending` reads (10_state.md R35). -/
theorem State.pending_iff (s : State) : s.pending = true ↔ s.params.eiDelay = .one ∧ s.imePending = true := by
  simp [State.pending]

/-- The steps that write ime: those of the three instructions and the one that completes a delayed EI
(60_exceptions.md R307). -/
theorem step_ime {s t : State} (h : step s = .next t) (hne : t.ime ≠ s.ime) :
    s.run = .running ∧
      (((s.fetchDecode s.pc).1 = .di ∧ t.ime = false) ∨
        ((s.fetchDecode s.pc).1 = .ei ∧ t.ime = true) ∨
        ((s.fetchDecode s.pc).1 = .reti ∧ t.ime = true) ∨
        (s.params.eiDelay = .one ∧ s.imePending = true ∧ t.ime = true)) := by
  obtain ⟨-, rfl⟩ | ⟨hrun, u, hu, rfl⟩ := step_cases h
  · exact absurd rfl hne
  refine ⟨hrun, ?_⟩
  obtain ⟨hbefore, -, hcomplete⟩ | ⟨-, hcomplete⟩ := State.completeEi_cases s u <;> rw [hcomplete] at hne ⊢
  · obtain ⟨hd, hp⟩ := s.pending_iff.mp hbefore
    exact .inr (.inr (.inr ⟨hd, hp, by simp⟩))
  · obtain hkept | hdi | hei | hreti := exec_ime hu
    · exact absurd hkept hne
    · exact .inl hdi
    · exact .inr (.inl hei)
    · exact .inr (.inr (.inl hreti))

/-- The register-file port never writes ime (00_scope.md R11). -/
theorem State.writeSingle_ime (s : State) (r : SingleRegister) (v : Byte) : (s.writeSingle r v).ime = s.ime := by
  cases r <;> rfl

theorem State.writeDouble_ime (s : State) (rr : DoubleRegister) (v : Word) : (s.writeDouble rr v).ime = s.ime := by
  cases rr <;> rfl

/-- Settles O15: a step is `step_ime`, an entry writes 0, and no other event writes ime. -/
theorem onlyTheseWriteIme : Obligations.OnlyTheseWriteIme := by
  refine ⟨fun s v hime => State.interruptEntry_of_ime_false hime v, fun e s t h hne => ?_⟩
  cases e with
  | step => exact .inr ⟨rfl, step_ime h hne⟩
  | interruptEntry v =>
    rw [State.eq_takeInterrupt_of_interruptEntry h]
    exact .inl ⟨v, rfl, s.takeInterrupt_ime v⟩
  | writeSingle r v =>
    cases h
    exact absurd (s.writeSingle_ime r v) hne
  | writeDouble rr v =>
    cases h
    exact absurd (s.writeDouble_ime rr v) hne
  | wake | memoryWrite | setFlags =>
    cases h
    exact absurd rfl hne

end Machine

end Sys2Proof
end

section
/-! PROOFS. The encoding of what is decoded (30_encoding.md sections 1, 4 and 5): an opcode byte is its fields, so that
what each row of the decoder answers encodes to the bytes it was read from. -/

namespace Sys2Proof

/-- The opcode byte with the fields x, y and z (30_encoding.md R92). -/
def opcodeOf (x : Index4) (y z : Index8) : Byte :=
  let base := match x with
    | .i0 => 0x00#8
    | .i1 => 0x40#8
    | .i2 => 0x80#8
    | .i3 => 0xC0#8
  base + 8#8 * BitVec.ofNat 8 y.val + BitVec.ofNat 8 z.val

/-- A byte is its fields. -/
theorem opcodeOf_fields (op : Byte) : opcodeOf (fieldX op) (fieldY op) (fieldZ op) = op := by
  revert op
  decide

/-- Every row of the extended table stands at the byte its fields spell (30_encoding.md R97, R102). -/
theorem encode_decodeCb (cb : Byte) : encode (decodeCb cb).toInstr = [0xCB#8, cb] := by
  rw [← opcodeOf_fields cb]
  cases fieldX cb <;> cases fieldY cb <;> cases fieldZ cb <;> rfl

/-- A word operand is encoded as the two bytes it was made of (30_encoding.md R99). -/
theorem wordImmediate_bytes (op b1 b2 : Byte) :
    [op, loByte (wordOf b2 b1), hiByte (wordOf b2 b1)] = [op, b1, b2] := by
  rw [loByte_wordOf, hiByte_wordOf]

/-- The encoding of a decoded instruction is the bytes it was read from, as many as the first byte says. The rows with a
word operand are listed, and 0xCB is `encode_decodeCb`; each other row of R100 is computed. -/
theorem encode_decodeBytes (b0 b1 b2 : Byte) :
    encode (decodeBytes b0 b1 b2) = [b0, b1, b2].take (instrLength b0) := by
  rw [← opcodeOf_fields b0]
  cases fieldX b0 with
  | i1 | i2 => cases fieldY b0 <;> cases fieldZ b0 <;> rfl
  | i0 =>
    cases fieldZ b0 with
    | i0 =>
      cases fieldY b0 with
      | i1 => exact wordImmediate_bytes _ b1 b2
      | _ => rfl
    | i1 =>
      cases fieldY b0 with
      | i0 | i2 | i4 | i6 => exact wordImmediate_bytes _ b1 b2
      | _ => rfl
    | _ => cases fieldY b0 <;> rfl
  | i3 =>
    cases fieldZ b0 with
    | i2 =>
      cases fieldY b0 with
      | i4 | i6 => rfl
      | _ => exact wordImmediate_bytes _ b1 b2
    | i3 =>
      cases fieldY b0 with
      | i0 => exact wordImmediate_bytes _ b1 b2
      | i1 => exact encode_decodeCb b1
      | _ => rfl
    | i4 =>
      cases fieldY b0 with
      | i0 | i1 | i2 | i3 => exact wordImmediate_bytes _ b1 b2
      | _ => rfl
    | i5 =>
      cases fieldY b0 with
      | i1 => exact wordImmediate_bytes _ b1 b2
      | _ => rfl
    | _ => cases fieldY b0 <;> rfl

/-- What is decoded is well formed: an illegal term comes only from an unmapped byte, which it carries
(30_encoding.md R101). -/
theorem decodeBytes_wellFormed (b0 b1 b2 : Byte) : (decodeBytes b0 b1 b2).WellFormed := by
  cases hi : decodeBytes b0 b1 b2 with
  | illegal b =>
    obtain ⟨rfl, hmem⟩ := decodeBytes_illegal hi
    exact decide_eq_true hmem
  | _ => rfl

/-- Settles O2: decoding reads the first bytes (`decode_ok`), and their instruction encodes to them. -/
theorem encodeOfDecode : Obligations.EncodeOfDecode := by
  intro bytes rest i h
  cases bytes with
  | nil => cases h
  | cons b0 tail =>
    obtain ⟨b1, b2, rfl, hbytes⟩ := decode_ok h
    exact ⟨decodeBytes_wellFormed b0 b1 b2, by rw [encode_decodeBytes, hbytes]⟩

/-- Decoding succeeds when the bytes that the first one announces are there (30_encoding.md R90). -/
theorem exists_decode_eq_ok {b0 : Byte} {tail : List Byte} (h : instrLength b0 - 1 ≤ tail.length) :
    ∃ i rest, decode (b0 :: tail) = .ok (i, rest) := by
  rw [decode_cons]
  rcases instrLength_cases b0 with hl | hl | hl <;> rw [hl] at h ⊢
  · exact ⟨_, _, rfl⟩
  · match tail, h with
    | _ :: _, _ => exact ⟨_, _, rfl⟩
  · match tail, h with
    | _ :: _ :: _, _ => exact ⟨_, _, rfl⟩

/-- Settles O3: the bytes that follow are one fewer than `instrLength` of the first. -/
theorem firstByteFixesLength : Obligations.FirstByteFixesLength := by
  intro b0
  have hcases := instrLength_cases b0
  refine ⟨instrLength b0 - 1, by omega, ?_, fun tail rest i h => ?_, fun tail => exists_decode_eq_ok⟩
  · rintro rfl
    rfl
  · obtain ⟨b1, b2, -, hbytes⟩ := decode_ok h
    have hlength := congrArg List.length hbytes
    simp only [List.length_cons, List.length_append, List.length_take, List.length_nil] at hlength
    omega

/-- Settles O5: each word decodes by computation, whatever follows it. -/
theorem sampleWordsDecode : Obligations.SampleWordsDecode :=
  ⟨fun _ => rfl, fun _ => rfl, fun _ => rfl, fun _ => rfl, fun _ => rfl, fun _ => rfl, fun _ => rfl, fun _ => rfl,
    fun _ => rfl, fun _ => rfl, fun _ => rfl, fun _ => rfl, fun _ => rfl, fun _ => rfl, fun _ => rfl, fun _ => rfl⟩

end Sys2Proof
end


section
/-! PROOFS. The invariant (10_state.md sections 1 and 4): it holds after every reset and every named update of the state
keeps it, so every form, every step and every event of the driver keep it. -/

namespace Sys2Proof.Machine

namespace Inv

variable {s t : State}

/-- The invariant reads four fields. -/
theorem of_eq (h : Inv s) (hmem : t.mem = s.mem) (hf : t.f = s.f) (hparams : t.params = s.params)
    (hpending : t.imePending = s.imePending) : Inv t :=
  ⟨hmem ▸ h.memory, hf ▸ h.flagBits, fun hd => hpending ▸ h.pending (hparams ▸ hd)⟩

theorem tick (h : Inv s) (n : Nat) : Inv (s.tick n) := h.of_eq rfl rfl rfl rfl

theorem advance (h : Inv s) (n : Nat) : Inv (s.advance n) := h.of_eq rfl rfl rfl rfl

theorem setPc (h : Inv s) (v : Word) : Inv (s.setPc v) := h.of_eq rfl rfl rfl rfl

theorem setIme (h : Inv s) (v : Bool) : Inv (s.setIme v) := h.of_eq rfl rfl rfl rfl

theorem setRun (h : Inv s) (v : RunState) : Inv (s.setRun v) := h.of_eq rfl rfl rfl rfl

/-- Where `ime_pending` does not exist, nothing is written (10_state.md R35). -/
theorem setPending (h : Inv s) (v : Bool) : Inv (s.setPending v) := by
  cases hd : s.params.eiDelay with
  | zero =>
    rw [State.setPending, hd]
    exact h
  | one => exact ⟨by simpa using h.memory, by simpa using h.flagBits, by simp [hd]⟩

theorem setFlags (h : Inv s) (fs : FlagSet) : Inv (s.setFlags fs) :=
  ⟨h.memory, FlagSet.pack_low fs, h.pending⟩

theorem writeByte (h : Inv s) (a : Word) (v : Byte) : Inv (s.writeByte a v) :=
  ⟨State.writeByte_wf h.memory a v, h.flagBits, h.pending⟩

theorem write16 (h : Inv s) (a v : Word) : Inv (s.write16 a v) := (h.writeByte a _).writeByte _ _

/-- Each write of the register file leaves F alone or masks it (10_state.md R25). -/
theorem writeSingle (h : Inv s) (r : SingleRegister) (v : Byte) : Inv (s.writeSingle r v) := by
  cases r with
  | f => exact ⟨h.memory, maskF_low v, h.pending⟩
  | _ => exact h.of_eq rfl rfl rfl rfl

theorem writeDouble (h : Inv s) (rr : DoubleRegister) (v : Word) : Inv (s.writeDouble rr v) := by
  cases rr with
  | af => exact ⟨h.memory, maskF_low (loByte v), h.pending⟩
  | _ => exact h.of_eq rfl rfl rfl rfl

theorem writeReg (h : Inv s) (r : Reg8) (v : Byte) : Inv (s.writeReg r v) := h.writeSingle _ v

theorem push16 (h : Inv s) (v : Word) : Inv (s.push16 v) :=
  ⟨State.push16_wf h.memory v, h.flagBits, h.pending⟩

theorem popPc (h : Inv s) : Inv s.popPc := h.of_eq rfl rfl rfl rfl

theorem ite {u : State} {c : Prop} [Decidable c] (ht : Inv t) (hu : Inv u) : Inv (if c then t else u) := by
  split <;> assumption

theorem callTo (h : Inv s) (target : Word) : Inv (callTo target s) := (h.push16 _).setPc _

theorem loadA (h : Inv s) (addr : Word) (n : Nat) : Inv (loadA addr n s) := (h.writeReg .a _).tick n

theorem storeA (h : Inv s) (addr : Word) (n : Nat) : Inv (storeA addr n s) := (h.writeByte addr _).tick n

theorem accRotate (h : Inv s) (op : RotOp) : Inv (accRotate op s) := ((h.writeReg .a _).setFlags _).tick 1

theorem takeInterrupt (h : Inv s) (v : Word) : Inv (s.takeInterrupt v) :=
  ((((h.setIme false).setPending false).setRun .running).callTo v).tick 5

theorem completeEi (h : Inv t) (s : State) : Inv (State.completeEi s t) := by
  obtain ⟨-, -, hcomplete⟩ | ⟨-, hcomplete⟩ := State.completeEi_cases s t <;> rw [hcomplete]
  · exact (h.setIme true).setPending false
  · exact h

end Inv

/-- Every form keeps the invariant: each case is the chain of the updates its meaning makes. -/
theorem Form.run_inv {f : Form} {s t : State} (h : Form.run f s = .next t) (hs : Inv s) : Inv t := by
  cases f <;> cases h
  case alu | incReg | decReg | rotReg | daa | cpl => exact ((hs.writeReg _ _).setFlags _).tick _
  case incMem | decMem | rotMem => exact ((hs.writeByte _ _).setFlags _).tick _
  case addHl | ldHlSp | addSp => exact ((hs.writeDouble _ _).setFlags _).tick _
  case incPair | decPair | ldPairImm | ldSpHl => exact (hs.writeDouble _ _).tick _
  case ldRegReg | ldRegImm | ldRegMem | resReg | setReg => exact (hs.writeReg _ _).tick _
  case ldMemReg | ldMemImm | resMem | setMem => exact (hs.writeByte _ _).tick _
  case ldABc | ldADe | ldAAddr | ldhAImm | ldAC => exact hs.loadA _ _
  case ldBcA | ldDeA | ldAddrA | ldhImmA | ldCA => exact hs.storeA _ _
  case ldAHlInc | ldAHlDec => exact (hs.loadA _ _).writeDouble .hl _
  case ldHlIncA | ldHlDecA => exact (hs.storeA _ _).writeDouble .hl _
  case ldAddrSp => exact (hs.write16 _ _).tick _
  case push => exact (hs.push16 _).tick _
  case pop => exact ((hs.writeDouble .sp _).writeDouble _ _).tick _
  case jp | jpHl | jr => exact (hs.setPc _).tick _
  case jpCond | jrCond => exact .ite ((hs.setPc _).tick _) (hs.tick _)
  case call | rst => exact (hs.callTo _).tick _
  case callCond => exact .ite ((hs.callTo _).tick _) (hs.tick _)
  case ret => exact hs.popPc.tick _
  case retCond => exact .ite (hs.popPc.tick _) (hs.tick _)
  case reti => exact ((hs.popPc.setIme _).setPending _).tick _
  case rlca | rrca | rla | rra => exact hs.accRotate _
  case bitReg | bitMem | scf | ccf => exact (hs.setFlags _).tick _
  case nop => exact hs.tick _
  case halt | stop => exact (hs.setRun _).tick _
  case di => exact ((hs.setIme _).setPending _).tick _
  case ei =>
    unfold eiOp
    split
    · exact (hs.setIme _).tick _
    · exact (hs.setPending _).tick _

/-- A step idles, or it is `Form.run_inv` of the fetched instruction with a pending EI completed. -/
theorem step_inv {s t : State} (h : step s = .next t) (hs : Inv s) : Inv t := by
  obtain ⟨-, rfl⟩ | ⟨-, u, hu, rfl⟩ := step_cases h
  · exact hs.tick 1
  · rw [exec_eq_run] at hu
    exact (Form.run_inv hu (hs.advance _)).completeEi s

/-- Settles O10: `step_inv`. -/
theorem stepKeepsInvariant : Obligations.StepKeepsInvariant :=
  fun _ _ hs h => step_inv h hs

/-- Reset keeps the four high bits of the draw's F at most, and sets no pending EI (70_reset_and_hazards.md R334). -/
theorem State.resetAs_inv (profile : ResetProfile) (params : Params) (draw : RegisterDraw) {mem : Memory}
    (hmem : mem.wf = true) : Inv (State.resetAs profile params draw mem) := by
  cases profile with
  | hardwareReset => exact ⟨hmem, maskF_low draw.f, fun _ => rfl⟩
  | postBootDMG => exact ⟨hmem, show 0xB0#8 &&& 0x0F#8 = 0#8 from rfl, fun _ => rfl⟩

/-- Settles O11: every reset is `State.resetAs` of a canonical memory. -/
theorem resetMeetsInvariant : Obligations.ResetMeetsInvariant :=
  ⟨fun profile params draw f => State.resetAs_inv profile params draw (Memory.ofFun_wf f),
    State.resetAs_inv _ _ _ rfl⟩

/-- Every event of the driver and of the external controller keeps the invariant. -/
theorem drive_inv {e : Event} {s t : State} (h : drive e s = .next t) (hs : Inv s) : Inv t := by
  cases e with
  | step => exact step_inv h hs
  | interruptEntry v =>
    rw [State.eq_takeInterrupt_of_interruptEntry h]
    exact hs.takeInterrupt v
  | wake =>
    cases h
    exact hs.setRun .running
  | memoryWrite addr v =>
    cases h
    exact hs.writeByte addr v
  | writeSingle r v =>
    cases h
    exact hs.writeSingle r v
  | writeDouble rr v =>
    cases h
    exact hs.writeDouble rr v
  | setFlags fs =>
    cases h
    exact hs.setFlags fs

/-- Settles O12: it holds at reset and every event keeps it. -/
theorem reachableMeetsInvariant : Obligations.ReachableMeetsInvariant := by
  intro s hs
  obtain ⟨hreset, -⟩ := resetMeetsInvariant
  induction hs with
  | reset profile params draw f => exact hreset profile params draw f
  | event e _ h ih => exact drive_inv h ih

end Sys2Proof.Machine
end


section
/-! PROOFS. Control state (10_state.md section 4): only DI, EI, RETI, HALT and STOP touch ime, ime_pending and run.
Every other form commutes with a change of the control fields, the parameters and the cycle counter, so it neither reads
nor writes them; what the five do is then all that a step does to them beside completing a pending EI. -/

namespace Sys2Proof.Machine

/-- `s` with the control fields and the parameters of `c`, and `n` more M-cycles. -/
def State.withControlOf (s c : State) (n : Nat) : State :=
  { s with ime := c.ime, imePending := c.imePending, run := c.run, params := c.params, cycles := n + s.cycles }

theorem State.withControlOf_self (s : State) : s.withControlOf s 0 = s := by
  simp [State.withControlOf]

theorem State.withControlOf_tick (s : State) (n : Nat) : s.withControlOf s n = s.tick n := by
  simp [State.withControlOf, State.tick, Nat.add_comm]

theorem State.withControlOf_cond (s c : State) (n : Nat) (cc : Cond) :
    (s.withControlOf c n).cond cc = s.cond cc := by
  cases cc <;> rfl

/-- The forms whose rules name a control field. -/
def Form.isControl : Form → Bool
  | .di | .ei | .reti | .halt | .stop _ => true
  | _ => false

/-- Every other form commutes with a change of the control fields, the parameters and the cycle counter. -/
theorem Form.run_withControlOf {f : Form} (hf : Form.isControl f = false) {s t : State}
    (h : Form.run f s = .next t) (c : State) (n : Nat) :
    Form.run f (s.withControlOf c n) = .next (t.withControlOf c n) := by
  cases f <;> cases h
  case di | ei | reti | halt | stop => cases hf
  case alu op src =>
    cases src with
    | reg r => cases r <;> rfl
    | mem | imm => rfl
  case incReg r | decReg r | ldRegMem r | ldMemReg r | rotReg r | bitReg r | resReg r | setReg r => cases r <;> rfl
  case ldRegImm r _ => cases r <;> rfl
  case ldRegReg r r' => cases r <;> cases r' <;> rfl
  case incPair rr | decPair rr | addHl rr => cases rr <;> rfl
  case ldPairImm rr _ => cases rr <;> rfl
  case push qq | pop qq => cases qq <;> rfl
  case jpCond | jrCond | callCond | retCond =>
    simp only [Form.run, jpCondOp, jrCondOp, callCondOp, retCondOp, State.withControlOf_cond]
    split <;> rfl
  all_goals rfl

/-- What an instruction does to the control state: it is one of the five, or it commutes with a change of the control
fields, the parameters and the cycle counter. -/
theorem exec_control {i : Instr} {s t : State} (h : exec i s = .next t) :
    (∀ c n, exec i (s.withControlOf c n) = .next (t.withControlOf c n)) ∨
    (i = .di ∧ t = diOp s) ∨ (i = .ei ∧ t = eiOp s) ∨ (i = .reti ∧ t = retiOp s) ∨
    (i = .halt ∧ t = haltOp s) ∨ (∃ b, i = .stop b ∧ t = stopOp b s) := by
  rw [← i.toInstr_form] at h ⊢
  simp only [exec_toInstr] at h ⊢
  generalize i.form = f at h ⊢
  cases hf : Form.isControl f with
  | false => exact .inl (Form.run_withControlOf hf h)
  | true =>
    cases f with
    | di => cases h; exact .inr (.inl ⟨rfl, rfl⟩)
    | ei => cases h; exact .inr (.inr (.inl ⟨rfl, rfl⟩))
    | reti => cases h; exact .inr (.inr (.inr (.inl ⟨rfl, rfl⟩)))
    | halt => cases h; exact .inr (.inr (.inr (.inr (.inl ⟨rfl, rfl⟩))))
    | stop b => cases h; exact .inr (.inr (.inr (.inr (.inr ⟨b, rfl, rfl⟩))))
    | _ => cases hf

/-- What commutes with a change of the control fields leaves them: the change may be to the values they have. -/
theorem withControlOf_eq_of_commutes {i : Instr} {s t : State} (h : exec i s = .next t)
    (hcommute : ∀ c n, exec i (s.withControlOf c n) = .next (t.withControlOf c n)) : t.withControlOf s 0 = t := by
  have hself := hcommute s 0
  rw [State.withControlOf_self, h] at hself
  injection hself with ht
  exact ht.symm

/-- With P_EI_DELAY = 1 EI leaves its enable pending (46_misc.md R284). -/
theorem eiOp_one {s : State} (hd : s.params.eiDelay = .one) : eiOp s = (s.setPending true).tick 1 := by
  rw [eiOp, hd]

/-- With P_EI_DELAY = 0 EI writes ime (46_misc.md R284). -/
theorem eiOp_zero {s : State} (hd : s.params.eiDelay = .zero) : eiOp s = (s.setIme true).tick 1 := by
  rw [eiOp, hd]

theorem eiOp_cycles (s : State) : (eiOp s).cycles = s.cycles + 1 := by
  cases hd : s.params.eiDelay with
  | zero => rw [eiOp_zero hd]; rfl
  | one => rw [eiOp_one hd]; exact congrArg (· + 1) (State.setPending_cycles s true)

theorem eiOp_run_params (s : State) : (eiOp s).run = s.run ∧ (eiOp s).params = s.params := by
  cases hd : s.params.eiDelay with
  | zero => rw [eiOp_zero hd]; exact ⟨rfl, rfl⟩
  | one => rw [eiOp_one hd]; exact ⟨State.setPending_run s true, State.setPending_params s true⟩

theorem retiOp_run_params (s : State) : (retiOp s).run = s.run ∧ (retiOp s).params = s.params := by
  simp [retiOp, State.returnFromInterrupt]

theorem diOp_run_params (s : State) : (diOp s).run = s.run ∧ (diOp s).params = s.params := by
  simp [diOp]

/-- No instruction changes the parameters (00_scope.md R6). -/
theorem exec_params {i : Instr} {s t : State} (h : exec i s = .next t) : t.params = s.params := by
  obtain hcommute | ⟨-, rfl⟩ | ⟨-, rfl⟩ | ⟨-, rfl⟩ | ⟨-, rfl⟩ | ⟨b, -, rfl⟩ := exec_control h
  · exact (congrArg State.params (withControlOf_eq_of_commutes h hcommute)).symm
  · exact (diOp_run_params s).2
  · exact (eiOp_run_params s).2
  · exact (retiOp_run_params s).2
  · rfl
  · rfl

/-- The instructions that write the run state (10_state.md R33). -/
theorem exec_run {i : Instr} {s t : State} (h : exec i s = .next t) :
    t.run = s.run ∨ (i = .halt ∧ t.run = .halted) ∨ (∃ b, i = .stop b) ∧ t.run = .stopped := by
  obtain hcommute | ⟨-, rfl⟩ | ⟨-, rfl⟩ | ⟨-, rfl⟩ | ⟨hi, rfl⟩ | ⟨b, hi, rfl⟩ := exec_control h
  · exact .inl ((congrArg State.run (withControlOf_eq_of_commutes h hcommute)).symm)
  · exact .inl (diOp_run_params s).1
  · exact .inl (eiOp_run_params s).1
  · exact .inl (retiOp_run_params s).1
  · exact .inr (.inl ⟨hi, rfl⟩)
  · exact .inr (.inr ⟨⟨b, hi⟩, rfl⟩)

/-- Completing a delayed EI writes no run state. -/
theorem State.completeEi_run (before after : State) : (State.completeEi before after).run = after.run := by
  obtain ⟨-, -, hcomplete⟩ | ⟨-, hcomplete⟩ := State.completeEi_cases before after <;> rw [hcomplete]
  simp

/-- The register-file port never writes the run state (00_scope.md R11). -/
theorem State.writeSingle_run (s : State) (r : SingleRegister) (v : Byte) : (s.writeSingle r v).run = s.run := by
  cases r <;> rfl

theorem State.writeDouble_run (s : State) (rr : DoubleRegister) (v : Word) : (s.writeDouble rr v).run = s.run := by
  cases rr <;> rfl

/-- Settles O16: a step writes the run state as its instruction does (`exec_run`), the wake input and an interrupt entry
set Running, and no other event writes it. -/
theorem onlyTheseWriteRun : Obligations.OnlyTheseWriteRun := by
  intro e s t h hne
  cases e with
  | step =>
    obtain ⟨-, rfl⟩ | ⟨hrun, u, hu, rfl⟩ := step_cases h
    · exact absurd rfl hne
    · rw [State.completeEi_run] at hne ⊢
      obtain hkept | hwrites := exec_run hu
      · exact absurd hkept hne
      · exact .inr (.inr ⟨rfl, hrun, hwrites⟩)
  | wake =>
    cases h
    exact .inl ⟨rfl, rfl⟩
  | interruptEntry v =>
    rw [State.eq_takeInterrupt_of_interruptEntry h]
    exact .inr (.inl ⟨v, rfl, rfl⟩)
  | writeSingle r v =>
    cases h
    exact absurd (s.writeSingle_run r v) hne
  | writeDouble rr v =>
    cases h
    exact absurd (s.writeDouble_run rr v) hne
  | memoryWrite | setFlags =>
    cases h
    exact absurd rfl hne

theorem State.tick_setPending (s : State) (n : Nat) (v : Bool) :
    (s.tick n).setPending v = (s.setPending v).tick n := by
  unfold State.setPending
  rw [State.tick_params]
  split <;> rfl

theorem State.tick_tick (s : State) (n m : Nat) : (s.tick n).tick m = (s.tick m).tick n := by
  simp [State.tick, Nat.add_right_comm]

theorem diOp_tick (s : State) (n : Nat) : diOp (s.tick n) = (diOp s).tick n := by
  show (((s.setIme false).tick n).setPending false).tick 1 = (diOp s).tick n
  rw [State.tick_setPending, State.tick_tick, diOp]

theorem eiOp_tick (s : State) (n : Nat) : eiOp (s.tick n) = (eiOp s).tick n := by
  cases hd : s.params.eiDelay with
  | zero =>
    rw [eiOp_zero hd, eiOp_zero (s := s.tick n) hd]
    exact State.tick_tick (s.setIme true) n 1
  | one => rw [eiOp_one hd, eiOp_one (s := s.tick n) hd, State.tick_setPending, State.tick_tick]

theorem retiOp_tick (s : State) (n : Nat) : retiOp (s.tick n) = (retiOp s).tick n := by
  show (((s.popPc.setIme true).tick n).setPending false).tick 4 = (retiOp s).tick n
  rw [State.tick_setPending, State.tick_tick, retiOp, State.returnFromInterrupt]

/-- No instruction reads the cycle counter (10_state.md R34). -/
theorem exec_tick {i : Instr} {s t : State} (h : exec i s = .next t) (n : Nat) :
    exec i (s.tick n) = .next (t.tick n) := by
  obtain hcommute | ⟨rfl, rfl⟩ | ⟨rfl, rfl⟩ | ⟨rfl, rfl⟩ | ⟨rfl, rfl⟩ | ⟨b, rfl, rfl⟩ := exec_control h
  · have hn := hcommute s n
    have ht : t.withControlOf s n = t.tick n := by
      rw [← withControlOf_eq_of_commutes h hcommute]
      simp [State.withControlOf, State.tick, Nat.add_comm]
    rwa [State.withControlOf_tick, ht] at hn
  · exact congrArg Host.Outcome.next (diOp_tick s n)
  · exact congrArg Host.Outcome.next (eiOp_tick s n)
  · exact congrArg Host.Outcome.next (retiOp_tick s n)
  · exact congrArg Host.Outcome.next (State.tick_tick (s.setRun .halted) n 1)
  · exact congrArg Host.Outcome.next (State.tick_tick (s.setRun .stopped) n 1)

theorem eiOp_setIme (s : State) (v : Bool) :
    eiOp (s.setIme v) = eiOp s ∨ eiOp (s.setIme v) = (eiOp s).setIme v := by
  cases hd : s.params.eiDelay with
  | zero =>
    rw [eiOp_zero hd, eiOp_zero (s := s.setIme v) hd]
    exact .inl rfl
  | one =>
    rw [eiOp_one hd, eiOp_one (s := s.setIme v) hd, State.setPending, State.setPending, State.setIme_params, hd]
    exact .inr rfl

/-- No instruction reads ime: it writes it, or carries it along (10_state.md R32). -/
theorem exec_setIme {i : Instr} {s t : State} (h : exec i s = .next t) (v : Bool) :
    exec i (s.setIme v) = .next t ∨ exec i (s.setIme v) = .next (t.setIme v) := by
  obtain hcommute | ⟨rfl, rfl⟩ | ⟨rfl, rfl⟩ | ⟨rfl, rfl⟩ | ⟨rfl, rfl⟩ | ⟨b, rfl, rfl⟩ := exec_control h
  · have hv := hcommute (s.setIme v) 0
    have hs : s.withControlOf (s.setIme v) 0 = (s.withControlOf s 0).setIme v := rfl
    have ht : t.withControlOf (s.setIme v) 0 = (t.withControlOf s 0).setIme v := rfl
    rw [hs, ht, State.withControlOf_self, withControlOf_eq_of_commutes h hcommute] at hv
    exact .inr hv
  · exact .inl rfl
  · exact (eiOp_setIme s v).imp (congrArg Host.Outcome.next) (congrArg Host.Outcome.next)
  · exact .inl rfl
  · exact .inr rfl
  · exact .inr rfl

/-- Settles O17: `exec_tick` and `exec_setIme`. -/
theorem noInstructionReadsCyclesOrIme : Obligations.NoInstructionReadsCyclesOrIme := by
  refine fun i s t n v h => ⟨exec_tick h n, ?_⟩
  obtain hwrites | hcarries := exec_setIme h v
  · exact ⟨t, hwrites, rfl, .inr rfl⟩
  · exact ⟨t.setIme v, hcarries, rfl, .inl rfl⟩

end Sys2Proof.Machine
end

section
/-! PROOFS. DI, EI and the end of a step (30_encoding.md section 6, 46_misc.md section 1): what becomes of an enable
that is pending when the step begins. -/

namespace Sys2Proof.Machine

/-- Settles O53: both are chains of the named updates; EI's is `eiOp_zero` or `eiOp_one`. -/
theorem diAndEi : Obligations.DiAndEi := by
  intro s
  refine ⟨⟨fun _ => rfl, diOp s, exec_toInstr .di s, ?_, fun hd => ?_, ?_, ?_⟩,
    ⟨fun _ => rfl, eiOp s, exec_toInstr .ei s, fun hd => ?_, fun hd => ?_, ?_⟩⟩
  · exact State.setPending_ime _ false
  · exact State.setPending_imePending_one (s := s.setIme false) hd false
  · exact congrArg (· + 1) (State.setPending_cycles (s.setIme false) false)
  · exact Form.run_frame (f := .di) rfl (by simp [Form.writes])
  · rw [eiOp_zero hd]
    exact ⟨rfl, ((Frame.refl _ s).setIme (.head _) true).tick 1⟩
  · rw [eiOp_one hd]
    exact ⟨State.setPending_imePending_one hd true, ((Frame.refl _ s).setPending (.head _) true).tick 1⟩
  · exact eiOp_cycles s

/-- What becomes of an enable that is pending when an instruction begins: DI cancels it, RETI enables at once, and every
other instruction leaves it pending (46_misc.md R283, R284, 43_control.md R229). -/
theorem exec_of_pending {i : Instr} {s t : State} (hd : s.params.eiDelay = .one) (hp : s.imePending = true)
    (h : exec i s = .next t) :
    (i = .di ∧ t.imePending = false ∧ t.ime = false) ∨
    (i ≠ .di ∧ (t.imePending = true ∨ t.imePending = false ∧ t.ime = true)) := by
  by_cases hdi : i = .di
  · subst hdi
    cases h
    exact .inl ⟨rfl, State.setPending_imePending_one (s := s.setIme false) hd false, State.setPending_ime _ _⟩
  refine .inr ⟨hdi, ?_⟩
  obtain hcommute | ⟨rfl, rfl⟩ | ⟨rfl, rfl⟩ | ⟨rfl, rfl⟩ | ⟨rfl, rfl⟩ | ⟨b, rfl, rfl⟩ := exec_control h
  · have hkept := congrArg State.imePending (withControlOf_eq_of_commutes h hcommute)
    exact .inl (hkept.symm.trans hp)
  · exact absurd rfl hdi
  · rw [eiOp_one hd]
    exact .inl (State.setPending_imePending_one hd true)
  · obtain ⟨-, -, hime, hpending, -⟩ := retiOp_spec s
    exact .inr ⟨hpending hd, hime⟩
  · exact .inl hp
  · exact .inl hp

/-- The end of a step, with the parameters the instruction left as they were (30_encoding.md R107). -/
theorem State.completeEi_eq {s t : State} (h : t.params = s.params) :
    State.completeEi s t =
      if s.params.eiDelay = .one ∧ s.imePending = true ∧ t.imePending = true then
        { t with ime := true, imePending := false }
      else t := by
  have hboth : (s.pending && t.pending) = true ↔
      s.params.eiDelay = .one ∧ s.imePending = true ∧ t.imePending = true := by
    simp only [Bool.and_eq_true, State.pending_iff, h]
    tauto
  simp only [State.completeEi, hboth]
  split
  · next hd =>
    unfold State.setPending
    rw [State.setIme_params, h, hd.1]
    rfl
  · rfl

/-- Settles O54: an enable that the instruction left pending (`exec_of_pending`) is completed. -/
theorem pendingEiCompletesAfterOneStep : Obligations.PendingEiCompletesAfterOneStep := by
  intro s t hd hp hrun h
  obtain ⟨hne, -⟩ | ⟨-, u, hu, rfl⟩ := step_cases h
  · exact absurd hrun hne
  have hparams : u.params = s.params := (exec_params hu).trans (s.advance_params _)
  rw [State.completeEi_eq hparams]
  obtain ⟨hdi, hpending, hime⟩ | ⟨hdi, hpending | ⟨hpending, hime⟩⟩ :=
    exec_of_pending (s := s.advance (s.fetchDecode s.pc).2) hd hp hu
  · simp [hpending, hime, hdi]
  · simp [hd, hp, hpending, hdi]
  · simp [hpending, hime, hdi]

/-- Settles O6: the step runs what it fetched (`State.decode_fetch`), and its end is `State.completeEi_eq`. -/
theorem stepRunsTheDecodedInstruction : Obligations.StepRunsTheDecodedInstruction := by
  intro s i rest hrun hdecode
  obtain ⟨rest', hfetch, hlength⟩ := s.decode_fetch s.pc
  rw [hfetch] at hdecode
  cases hdecode
  have hn : 3 - rest.length = (s.fetchDecode s.pc).2 := by
    rw [hlength, State.fetchDecode_length]
    rcases instrLength_cases (s.readByte s.pc) with hl | hl | hl <;> rw [hl]
  rw [step_running hrun, hn]
  have hadvance : { s with pc := s.pc + BitVec.ofNat 16 (s.fetchDecode s.pc).2 } =
      s.advance (s.fetchDecode s.pc).2 := rfl
  rw [hadvance]
  cases hexec : exec (s.fetchDecode s.pc).1 (s.advance (s.fetchDecode s.pc).2) with
  | next t =>
    have hparams : t.params = s.params := (exec_params hexec).trans (s.advance_params _)
    simp only [State.completeEi_eq hparams]
    split <;> rfl
  | fault e => rfl
  | refused r => rfl

end Sys2Proof.Machine
end


section
/-! PROOFS. ADC, SBC, INC and DEC of a byte, ADD HL and SWAP (40_alu8.md R135 to R137, R141 to R143, R156 to R159,
41_alu16.md R170, 44_rotate_shift.md R257, R258). -/

namespace Sys2Proof.Machine

/-- Settles O23: `addBytes` with the carry as carry-in. -/
theorem adcToA : Obligations.AdcToA := by
  intro src s a v c
  obtain ⟨t, hexec, ha, hflags, hcycles, hframe⟩ := exec_alu .adc src s
  have hsum : (addBytes (s.readReg .a) (s.sourceValue src) s.flags.c).1.toNat = (a + v + c) % 256 :=
    addBytes_fst_toNat _ _ s.flags.c
  refine ⟨alu_encodes .adc src, t, hexec, ?_, ?_, hcycles, hframe⟩
  · rw [ha]
    exact hsum
  · rw [hflags, ← hsum]
    exact addBytes_snd _ _ s.flags.c

/-- Settles O25: `subBytes` with the carry as borrow-in. -/
theorem sbcFromA : Obligations.SbcFromA := by
  intro src s a v c
  obtain ⟨t, hexec, ha, hflags, hcycles, hframe⟩ := exec_alu .sbc src s
  have hdiff : (subBytes (s.readReg .a) (s.sourceValue src) s.flags.c).1.toNat = (a + 512 - v - c) % 256 :=
    subBytes_fst_toNat _ _ s.flags.c
  refine ⟨alu_encodes .sbc src, t, hexec, ?_, ?_, hcycles, hframe⟩
  · rw [ha]
    exact hdiff
  · rw [hflags, ← hdiff]
    exact subBytes_snd _ _ s.flags.c

theorem incByte_fst_toNat (v : Byte) (old : FlagSet) : (incByte v old).1.toNat = (v.toNat + 1) % 256 :=
  BitVec.toNat_add v 1#8

theorem incByte_snd (v : Byte) (old : FlagSet) :
    (incByte v old).2 =
      { z := decide ((v.toNat + 1) % 256 = 0), n := false, h := decide (v.toNat % 16 = 0xF), c := old.c } := by
  rw [← incByte_fst_toNat v old, ← beq_zero_eq_decide_toNat]
  rfl

theorem decByte_fst_toNat (v : Byte) (old : FlagSet) : (decByte v old).1.toNat = (v.toNat + 255) % 256 := by
  show (v - 1#8).toNat = _
  bv_omega

theorem decByte_snd (v : Byte) (old : FlagSet) :
    (decByte v old).2 =
      { z := decide ((v.toNat + 255) % 256 = 0), n := true, h := decide (v.toNat % 16 = 0x0), c := old.c } := by
  rw [← decByte_fst_toNat v old, ← beq_zero_eq_decide_toNat]
  rfl

/-- INC of a register is `00 rrr 100` (40_alu8.md R156). -/
theorem incReg_encodes (r : Reg8) : Encodes [0x04#8 + 8#8 * r.code] (Form.toInstr (.incReg r)) := by
  intro rest
  cases r <;> rfl

/-- DEC of a register is `00 rrr 101` (40_alu8.md R158). -/
theorem decReg_encodes (r : Reg8) : Encodes [0x05#8 + 8#8 * r.code] (Form.toInstr (.decReg r)) := by
  intro rest
  cases r <;> rfl

/-- ADD HL of a pair is `00 pp1 001` (41_alu16.md R170). -/
theorem addHl_encodes (rr : Pair) : Encodes [0x09#8 + 16#8 * rr.code] (Form.toInstr (.addHl rr)) := by
  intro rest
  cases rr <;> rfl

/-- What an instruction leaves that writes the byte `x.1` to a register and the flags `x.2`, C as it was, in `n`
M-cycles. -/
theorem State.writeReg_keepC_tick (s : State) (r : Reg8) {x : Byte × FlagSet} {v : Nat} {fs : FlagSet} (n : Nat)
    (hv : x.1.toNat = v) (hfs : x.2 = fs) (hc : x.2.c = s.flags.c) :
    ((((s.writeReg r x.1).setFlags x.2).tick n).readReg r).toNat = v ∧
      (((s.writeReg r x.1).setFlags x.2).tick n).flags = fs ∧
      (((s.writeReg r x.1).setFlags x.2).tick n).cycles = s.cycles + n ∧
      Frame [.reg r, .z, .n, .h] s (((s.writeReg r x.1).setFlags x.2).tick n) := by
  obtain ⟨hread, hflags, hcycles, -⟩ := s.writeReg_setFlags_tick r x.1 x.2 n
  exact ⟨(congrArg BitVec.toNat hread).trans hv, hflags.trans hfs, hcycles,
    (((Frame.refl _ s).writeReg (by simp)).setFlags (by simp [hc])).tick n⟩

/-- The same of a byte of memory. -/
theorem State.writeByte_keepC_tick {s : State} (hs : s.mem.wf = true) (a : Word) {x : Byte × FlagSet} {v : Nat}
    {fs : FlagSet} (n : Nat) (hv : x.1.toNat = v) (hfs : x.2 = fs) (hc : x.2.c = s.flags.c) :
    ((((s.writeByte a x.1).setFlags x.2).tick n).readByte a).toNat = v ∧
      (((s.writeByte a x.1).setFlags x.2).tick n).flags = fs ∧
      (((s.writeByte a x.1).setFlags x.2).tick n).cycles = s.cycles + n ∧
      Frame [.byte a, .z, .n, .h] s (((s.writeByte a x.1).setFlags x.2).tick n) := by
  obtain ⟨hread, hflags, hcycles, -⟩ := State.writeByte_setFlags_tick hs a x.1 x.2 n
  exact ⟨(congrArg BitVec.toNat hread).trans hv, hflags.trans hfs, hcycles,
    (((Frame.refl _ s).writeByte hs (.head _) _).setFlags (by simp [hc])).tick n⟩

/-- Settles O28: each form writes `incByte` or `decByte` of its operand back and keeps C. -/
theorem incDecByte : Obligations.IncDecByte := by
  refine ⟨fun r s => ⟨⟨incReg_encodes r, incRegOp r s, exec_toInstr _ s, ?_⟩,
      ⟨decReg_encodes r, decRegOp r s, exec_toInstr _ s, ?_⟩⟩,
    fun s hs => ⟨⟨fun _ => rfl, incMemOp s, exec_toInstr .incMem s, ?_⟩,
      ⟨fun _ => rfl, decMemOp s, exec_toInstr .decMem s, ?_⟩⟩⟩
  · exact s.writeReg_keepC_tick r 1 (incByte_fst_toNat (s.readReg r) s.flags) (incByte_snd _ _) rfl
  · exact s.writeReg_keepC_tick r 1 (decByte_fst_toNat (s.readReg r) s.flags) (decByte_snd _ _) rfl
  · exact State.writeByte_keepC_tick hs s.hl 3 (incByte_fst_toNat s.readAtHl s.flags) (incByte_snd _ _) rfl
  · exact State.writeByte_keepC_tick hs s.hl 3 (decByte_fst_toNat s.readAtHl s.flags) (decByte_snd _ _) rfl

/-- Settles O29: the sum is that of words, and the flags are those of `addWords` by definition. -/
theorem addToHl : Obligations.AddToHl := by
  intro rr s h v
  have hhl : (addHlOp rr s).hl = s.hl + s.readPair rr := by simp [addHlOp, addWords]
  have hflags : (addHlOp rr s).flags = (addWords s.hl (s.readPair rr) s.flags).2 := by simp [addHlOp]
  refine ⟨addHl_encodes rr, addHlOp rr s, exec_toInstr _ s, ?_, hflags, rfl,
    Form.run_frame (f := .addHl rr) rfl (by simp [Form.writes])⟩
  rw [hhl]
  exact BitVec.toNat_add ..

/-- Settles O49: SWAP is the rotate operation that moves no bit out, so C is clear. -/
theorem swapNibbles : Obligations.SwapNibbles := by
  refine ⟨fun r s => ?_, fun s hs => ?_⟩
  · exact ⟨rotReg_encodes .swap r, rotRegOp .swap r s, exec_toInstr _ s, rotRegOp_spec .swap r s⟩
  · exact ⟨rotMem_encodes .swap, rotMemOp .swap s, exec_toInstr (.rotMem .swap) s, rotMemOp_spec .swap hs⟩

end Sys2Proof.Machine
end


section
/-! PROOFS. DAA (46_misc.md R285): the table in arithmetic, and the decimal sums and differences it is for. -/

namespace Sys2Proof.Machine

theorem daaHigh_eq_decide (a : Byte) (old : FlagSet) :
    daaHigh a old = decide (old.c = true ∨ (old.n = false ∧ a.toNat > 0x99)) := by
  simp [daaHigh]

theorem daaLow_eq_decide (a : Byte) (old : FlagSet) :
    daaLow a old = decide (old.h = true ∨ (old.n = false ∧ a.toNat % 16 > 9)) := by
  simp [daaLow, lowNibble]

/-- What DAA adds or subtracts, from its two decisions. -/
def daaAdjust (high low : Bool) : Nat := (if high then 0x60 else 0) + (if low then 0x06 else 0)

/-- The two corrections have no bit in common. -/
theorem daaAdjust_toNat (high low : Bool) :
    ((if high then 0x60#8 else 0#8) ||| (if low then 0x06#8 else 0#8)).toNat = daaAdjust high low := by
  cases high <;> cases low <;> rfl

theorem daaByte_fst_toNat (a : Byte) (old : FlagSet) :
    (daaByte a old).1.toNat =
      if old.n = true then (a.toNat + 256 - daaAdjust (daaHigh a old) (daaLow a old)) % 256
      else (a.toNat + daaAdjust (daaHigh a old) (daaLow a old)) % 256 := by
  rw [← daaAdjust_toNat, daaByte]
  split
  · bv_omega
  · exact BitVec.toNat_add ..

theorem daaByte_snd (a : Byte) (old : FlagSet) :
    (daaByte a old).2 =
      { z := decide ((daaByte a old).1.toNat = 0), n := old.n, h := false, c := daaHigh a old } := by
  rw [← beq_zero_eq_decide_toNat]
  rfl

/-- What DAA leaves: N is written with the value it had. -/
theorem daaOp_spec (s : State) :
    (daaOp s).readReg .a = (daaByte (s.readReg .a) s.flags).1 ∧
      (daaOp s).flags = (daaByte (s.readReg .a) s.flags).2 ∧
      (daaOp s).cycles = s.cycles + 1 ∧ Frame [.reg .a, .z, .h, .c] s (daaOp s) := by
  obtain ⟨ha, hflags, hcycles, -⟩ := s.writeReg_setFlags_tick .a _ (daaByte (s.readReg .a) s.flags).2 1
  exact ⟨ha, hflags, hcycles, Form.run_frame (f := .daa) rfl (by simp [Form.writes])⟩

/-- Settles O55: `daaByte` in arithmetic. -/
theorem decimalAdjust : Obligations.DecimalAdjust := by
  intro s a high low adj res
  obtain ⟨ha, hflags, hrest⟩ := daaOp_spec s
  have hhigh : daaHigh (s.readReg .a) s.flags = decide high := daaHigh_eq_decide _ _
  have hlow : daaLow (s.readReg .a) s.flags = decide low := daaLow_eq_decide _ _
  have hadj : daaAdjust (daaHigh (s.readReg .a) s.flags) (daaLow (s.readReg .a) s.flags) = adj := by
    simp only [hhigh, hlow, daaAdjust, decide_eq_true_eq, adj]
  have hres : (daaByte (s.readReg .a) s.flags).1.toNat = res := by
    rw [daaByte_fst_toNat, hadj]
  refine ⟨fun _ => rfl, daaOp s, exec_toInstr .daa s, ?_, ?_, hrest⟩
  · rw [ha, hres]
  · rw [hflags, daaByte_snd, hres, hhigh]

/-- Decimal addition of two-digit numbers: the carry of each digit is what the binary sum carries out of it or shows
above 9, and 6 more moves the digit past the six values that are none. -/
theorem daaAdjust_sum {a v c : Nat} (ha : a / 16 ≤ 9 ∧ a % 16 ≤ 9) (hv : v / 16 ≤ 9 ∧ v % 16 ≤ 9) (hc : c ≤ 1)
    {high low : Bool} (hhigh : high = true ↔ a + v + c > 0xFF ∨ (a + v + c) % 256 > 0x99)
    (hlow : low = true ↔ a % 16 + v % 16 + c > 0xF ∨ (a + v + c) % 256 % 16 > 9) {res : Nat}
    (hres : res = ((a + v + c) % 256 + daaAdjust high low) % 256) :
    (res / 16 ≤ 9 ∧ res % 16 ≤ 9) ∧
      10 * (res / 16) + res % 16 + 100 * high.toNat = 10 * (a / 16) + a % 16 + (10 * (v / 16) + v % 16) + c := by
  obtain ⟨ha1, ha0⟩ := ha
  obtain ⟨hv1, hv0⟩ := hv
  cases high <;> cases low <;> simp [daaAdjust] at hhigh hlow hres ⊢ <;> omega

/-- Decimal subtraction: a digit that borrows is 6 too large. -/
theorem daaAdjust_diff {a v c : Nat} (ha : a / 16 ≤ 9 ∧ a % 16 ≤ 9) (hv : v / 16 ≤ 9 ∧ v % 16 ≤ 9) (hc : c ≤ 1)
    {high low : Bool} (hhigh : high = true ↔ a < v + c) (hlow : low = true ↔ a % 16 < v % 16 + c) {res : Nat}
    (hres : res = ((a + 512 - v - c) % 256 + 256 - daaAdjust high low) % 256) :
    (res / 16 ≤ 9 ∧ res % 16 ≤ 9) ∧
      10 * (res / 16) + res % 16 + (10 * (v / 16) + v % 16) + c = 10 * (a / 16) + a % 16 + 100 * high.toNat := by
  obtain ⟨ha1, ha0⟩ := ha
  obtain ⟨hv1, hv0⟩ := hv
  cases high <;> cases low <;> simp [daaAdjust] at hhigh hlow hres ⊢ <;> omega

/-- ADD or ADC, then DAA (46_misc.md section 2). -/
theorem daaByte_addBytes {a v : Byte} (ha : IsBcd a) (hv : IsBcd v) (cin : Bool) {x : Byte × FlagSet}
    (hx : x = daaByte (addBytes a v cin).1 (addBytes a v cin).2) :
    IsBcd x.1 ∧ bcdValue x.1 + 100 * x.2.c.toNat = bcdValue a + bcdValue v + cin.toNat := by
  subst hx
  refine daaAdjust_sum (low := daaLow (addBytes a v cin).1 (addBytes a v cin).2) ha hv cin.toNat_le ?_ ?_ ?_
  · simp [daaByte_snd, daaHigh_eq_decide, addBytes_snd, addBytes_fst_toNat]
  · simp [daaLow_eq_decide, addBytes_snd, addBytes_fst_toNat]
  · rw [daaByte_fst_toNat, daaByte_snd, addBytes_fst_toNat]
    rfl

/-- SUB or SBC, then DAA (46_misc.md section 2). -/
theorem daaByte_subBytes {a v : Byte} (ha : IsBcd a) (hv : IsBcd v) (cin : Bool) {x : Byte × FlagSet}
    (hx : x = daaByte (subBytes a v cin).1 (subBytes a v cin).2) :
    IsBcd x.1 ∧ bcdValue x.1 + bcdValue v + cin.toNat = bcdValue a + 100 * x.2.c.toNat := by
  subst hx
  refine daaAdjust_diff (low := daaLow (subBytes a v cin).1 (subBytes a v cin).2) ha hv cin.toNat_le ?_ ?_ ?_
  · simp [daaByte_snd, daaHigh_eq_decide, subBytes_snd]
  · simp [daaLow_eq_decide, subBytes_snd]
  · rw [daaByte_fst_toNat, daaByte_snd, subBytes_fst_toNat]
    rfl

/-- An ALU instruction and then DAA leave `daaByte` of the ALU's result and flags in A and the flags. -/
theorem exec_alu_daa (op : AluOp) (src : Source) (s : State) :
    ∃ t u x, exec (Form.toInstr (.alu op src)) s = .next t ∧ exec .daa t = .next u ∧
      u.readReg .a = x.1 ∧ u.flags = x.2 ∧
      x = daaByte (aluBytes op (s.readReg .a) (s.sourceValue src) s.flags.c).1
        (aluBytes op (s.readReg .a) (s.sourceValue src) s.flags.c).2 := by
  obtain ⟨t, hexec, ha, hflags, -, -⟩ := exec_alu op src s
  obtain ⟨hua, huflags, -, -⟩ := daaOp_spec t
  rw [ha, hflags] at hua huflags
  exact ⟨t, daaOp t, _, hexec, exec_toInstr .daa t, hua, huflags, rfl⟩

/-- ADD and ADC, each with its carry-in, then DAA. -/
theorem exec_add_daa {op : AluOp} {src : Source} {s : State} (ha : IsBcd (s.readReg .a))
    (hv : IsBcd (s.sourceValue src)) {cin : Bool}
    (hop : aluBytes op (s.readReg .a) (s.sourceValue src) s.flags.c =
      addBytes (s.readReg .a) (s.sourceValue src) cin) :
    ∃ t u, exec (Form.toInstr (.alu op src)) s = .next t ∧ exec .daa t = .next u ∧ IsBcd (u.readReg .a) ∧
      bcdValue (u.readReg .a) + 100 * u.flags.c.toNat =
        bcdValue (s.readReg .a) + bcdValue (s.sourceValue src) + cin.toNat := by
  obtain ⟨t, u, x, ht, hu, hua, huflags, hx⟩ := exec_alu_daa op src s
  rw [hop] at hx
  exact ⟨t, u, ht, hu, hua ▸ huflags ▸ daaByte_addBytes ha hv cin hx⟩

/-- SUB and SBC, each with its borrow-in, then DAA. -/
theorem exec_sub_daa {op : AluOp} {src : Source} {s : State} (ha : IsBcd (s.readReg .a))
    (hv : IsBcd (s.sourceValue src)) {cin : Bool}
    (hop : aluBytes op (s.readReg .a) (s.sourceValue src) s.flags.c =
      subBytes (s.readReg .a) (s.sourceValue src) cin) :
    ∃ t u, exec (Form.toInstr (.alu op src)) s = .next t ∧ exec .daa t = .next u ∧ IsBcd (u.readReg .a) ∧
      bcdValue (u.readReg .a) + bcdValue (s.sourceValue src) + cin.toNat =
        bcdValue (s.readReg .a) + 100 * u.flags.c.toNat := by
  obtain ⟨t, u, x, ht, hu, hua, huflags, hx⟩ := exec_alu_daa op src s
  rw [hop] at hx
  exact ⟨t, u, ht, hu, hua ▸ huflags ▸ daaByte_subBytes ha hv cin hx⟩

/-- Settles O56: a decimal sum or difference for each of the four, ADD and SUB without a carry-in. -/
theorem daaMakesDecimalArithmetic : Obligations.DaaMakesDecimalArithmetic := by
  intro src s ha hv a v c
  exact ⟨exec_add_daa (cin := false) ha hv rfl, exec_add_daa ha hv rfl, exec_sub_daa (cin := false) ha hv rfl,
    exec_sub_daa ha hv rfl⟩

end Sys2Proof.Machine
end


section
/-! PROOFS. What undoes what: RET after CALL and RETI after an interrupt entry (43_control.md section 2,
60_exceptions.md section 2). The frame of the two together is a chain of updates, from which the parts they restore are
dropped. -/

namespace Sys2Proof.Machine

/-- PC, SP and ime need not be listed where the end has the value of the start. -/
theorem Frame.drop_restored {p q : List Part} {s t : State} (h : Frame p s t)
    (hp : ∀ x ∈ p, x ∈ q ∨ x = .pc ∨ x = .sp ∨ x = .ime) (hpc : t.pc = s.pc) (hsp : t.sp = s.sp)
    (hime : t.ime = s.ime) : Frame q s t := by
  have hq : ∀ x, x ∉ q → x ≠ .pc → x ≠ .sp → x ≠ .ime → x ∉ p := fun x hx h1 h2 h3 hmem =>
    (hp x hmem).elim hx fun h' => h'.elim h1 fun h' => h'.elim h2 h3
  exact {
    reg := fun r hr => h.reg r (hq _ hr nofun nofun nofun)
    z := fun hx => h.z (hq _ hx nofun nofun nofun)
    n := fun hx => h.n (hq _ hx nofun nofun nofun)
    h := fun hx => h.h (hq _ hx nofun nofun nofun)
    c := fun hx => h.c (hq _ hx nofun nofun nofun)
    sp := fun _ => hsp
    pc := fun _ => hpc
    memory := fun a ha => h.memory a (hq _ ha nofun nofun nofun)
    ime := fun _ => hime
    imePending := fun hx => h.imePending (hq _ hx nofun nofun nofun)
    run := fun hx => h.run (hq _ hx nofun nofun nofun)
    params := h.params
    flagBits := h.flagBits }

/-- A pop from the two bytes below `sp` that hold a word gives the word and `sp` back (20_memory.md R65). -/
theorem State.pop_of_pushed {t : State} {sp v : Word} (hsp : t.sp = sp - 2#16)
    (hhi : t.readByte (sp - 1#16) = hiByte v) (hlo : t.readByte (sp - 2#16) = loByte v) :
    wordOf (t.readByte (t.sp + 1#16)) (t.readByte t.sp) = v ∧ t.sp + 2#16 = sp := by
  have hnext : t.sp + 1#16 = sp - 1#16 := by
    rw [hsp]
    bv_omega
  rw [hnext, hhi, hsp, hlo]
  exact ⟨wordOf_hiByte_loByte v, by bv_omega⟩

/-- Settles O45: the frame of CALL, then RET's pop, which restores PC and SP. -/
theorem retUndoesCall : Obligations.RetUndoesCall := by
  intro a16 s hs
  obtain ⟨-, hsp, hhi, hlo, hcycles, hframe⟩ := callTo_tick hs a16 6
  obtain ⟨hpop, hsp⟩ := State.pop_of_pushed hsp hhi hlo
  have hboth : Frame (.pc :: pushParts s) s (retOp (callOp a16 s)) :=
    (hframe.popPc (by simp) (by simp [pushParts])).tick 4
  have hime : (retOp (callOp a16 s)).ime = s.ime := hboth.ime (by simp [pushParts])
  exact ⟨callOp a16 s, retOp (callOp a16 s), exec_toInstr (.call a16) s, exec_toInstr .ret _,
    congrArg (· + 4) hcycles, hboth.drop_restored (by simp [pushParts]) hpop hsp hime⟩

/-- While ime = 1 an address outside P_INTERRUPT_VECTORS is refused (60_exceptions.md R309). -/
theorem State.interruptEntry_of_not_mem {s : State} {v : Word} (h : s.ime = true)
    (hv : v ∉ s.params.interruptVectors) : s.interruptEntry v = .refused (.notAnInterruptVector v) := by
  rw [State.interruptEntry, if_neg (by simp [h]), if_neg hv]

/-- Settles O59: the frame of the entry, then RETI's pop, which restores PC and SP, and its enable, which restores
ime. -/
theorem retiUndoesInterruptEntry : Obligations.RetiUndoesInterruptEntry := by
  intro s v hs hime
  refine ⟨fun hv => ?_, State.interruptEntry_of_not_mem hime⟩
  obtain ⟨-, -, -, hhi, hlo, hsp, -, -, hframe⟩ := State.takeInterrupt_spec hs v
  obtain ⟨hpop, hsp⟩ := State.pop_of_pushed hsp hhi hlo
  obtain ⟨hpc, husp, huime, -⟩ := retiOp_spec (s.takeInterrupt v)
  have hboth : Frame (.ime :: .imePending :: .run :: .pc :: pushParts s) s (retiOp (s.takeInterrupt v)) :=
    (((hframe.popPc (by simp) (by simp [pushParts])).setIme (by simp) _).setPending (by simp) _).tick 4
  exact ⟨s.takeInterrupt v, retiOp (s.takeInterrupt v), State.interruptEntry_of_mem hime hv, exec_toInstr .reti _,
    hpc.trans hpop, husp.trans hsp, huime,
    hboth.drop_restored (by simp [pushParts]) (hpc.trans hpop) (husp.trans hsp) (huime.trans hime.symm)⟩

end Sys2Proof.Machine
end

section
/-! PROOFS. Idle steps and the wake input, what stops, and reset (30_encoding.md section 6, 60_exceptions.md sections 1
and 3, 70_reset_and_hazards.md section 1). -/

namespace Sys2Proof.Machine

/-- Settles O7: `step_of_run_ne_running`; the wake input is an update of run alone. -/
theorem idleStepAndWake : Obligations.IdleStepAndWake :=
  fun _ => ⟨step_of_run_ne_running, rfl⟩

/-- Settles O9: `exec_cases`. -/
theorem onlyIllegalStops : Obligations.OnlyIllegalStops := by
  refine ⟨fun _ _ => rfl, fun i s => ?_⟩
  obtain hnext | ⟨b, hb, -⟩ := exec_cases i s
  · exact .inr hnext
  · exact .inl ⟨b, hb⟩

/-- Settles O60: each field is `State.resetAs`'s, and memory is `Memory.read_ofFun`. -/
theorem resetState : Obligations.ResetState := by
  intro params draw f
  exact ⟨⟨rfl, rfl, rfl, rfl, rfl, rfl, rfl, rfl, rfl, rfl, rfl, rfl, rfl, rfl, maskF_low draw.f, rfl,
      Memory.read_ofFun f⟩,
    ⟨rfl, rfl, show FlagSet.unpack 0xB0#8 = _ from rfl, rfl, rfl, rfl, rfl, rfl, rfl, rfl, rfl, rfl, rfl, rfl, rfl, rfl,
      Memory.read_ofFun f⟩⟩

end Sys2Proof.Machine
end

section
/-! PROOFS. The bytes of every form, which decode to it and are its encoding (30_encoding.md sections 3 to 5), and its
length and cost (70_reset_and_hazards.md R343). -/

namespace Sys2Proof.Machine

/-- Bytes that decode to an instruction are its encoding, since what is decoded encodes to the bytes it was read
from. -/
theorem encode_of_encodes {bytes : List Byte} {i : Instr} (h : Encodes bytes i) : encode i = bytes := by
  obtain ⟨-, hbytes⟩ := encodeOfDecode (bytes ++ []) [] i (h [])
  simpa using hbytes

/-- Bytes that decode to an instruction settle its encoding and its length. -/
theorem encode_spec_of_encodes {bytes : List Byte} {i : Instr} (h : Encodes bytes i) :
    Encodes (encode i) i ∧ (encode i).length = bytes.length := by
  rw [encode_of_encodes h]
  exact ⟨h, rfl⟩

/-- The encoding of every form but an illegal byte's decodes to it, and is as long as R343 says. -/
theorem Form.encode_spec {f : Form} (hf : ∀ b, f ≠ .illegal b) :
    Encodes (encode f.toInstr) f.toInstr ∧ (encode f.toInstr).length = Form.length f := by
  cases f with
  | illegal b => exact absurd rfl (hf b)
  | alu op src =>
    have hlength : (sourceEncoding (0x80#8 + 8#8 * op.code) (0x86#8 + 8#8 * op.code) (0xC6#8 + 8#8 * op.code)
        src).length = Form.length (.alu op src) := by
      cases src <;> rfl
    rw [← hlength]
    exact encode_spec_of_encodes (alu_encodes op src)
  | incReg r => exact encode_spec_of_encodes (incReg_encodes r)
  | decReg r => exact encode_spec_of_encodes (decReg_encodes r)
  | addHl rr => exact encode_spec_of_encodes (addHl_encodes rr)
  | incPair rr => exact encode_spec_of_encodes (incPair_encodes rr)
  | decPair rr => exact encode_spec_of_encodes (decPair_encodes rr)
  | ldRegReg r r' => exact encode_spec_of_encodes (ldRegReg_encodes r r')
  | ldRegImm r d8 => exact encode_spec_of_encodes (ldRegImm_encodes r d8)
  | ldRegMem r => exact encode_spec_of_encodes (ldRegMem_encodes r)
  | ldMemReg r => exact encode_spec_of_encodes (ldMemReg_encodes r)
  | ldPairImm rr d16 => exact encode_spec_of_encodes (ldPairImm_encodes rr d16)
  | push qq => exact encode_spec_of_encodes (push_encodes qq)
  | pop qq => exact encode_spec_of_encodes (pop_encodes qq)
  | jpCond cc a16 => exact encode_spec_of_encodes (jpCond_encodes cc a16)
  | jrCond cc e8 => exact encode_spec_of_encodes (jrCond_encodes cc e8)
  | callCond cc a16 => exact encode_spec_of_encodes (callCond_encodes cc a16)
  | retCond cc => exact encode_spec_of_encodes (retCond_encodes cc)
  | rst y => exact encode_spec_of_encodes (rst_encodes y)
  | rotReg op r => exact encode_spec_of_encodes (rotReg_encodes op r)
  | rotMem op => exact encode_spec_of_encodes (rotMem_encodes op)
  | bitReg b r =>
    obtain ⟨hbit, -, -⟩ := decodeCb_bitReg_resReg_setReg b r
    exact encode_spec_of_encodes (encodes_of_decodeCb hbit)
  | resReg b r =>
    obtain ⟨-, hres, -⟩ := decodeCb_bitReg_resReg_setReg b r
    exact encode_spec_of_encodes (encodes_of_decodeCb hres)
  | setReg b r =>
    obtain ⟨-, -, hset⟩ := decodeCb_bitReg_resReg_setReg b r
    exact encode_spec_of_encodes (encodes_of_decodeCb hset)
  | bitMem b =>
    obtain ⟨hbit, -, -⟩ := decodeCb_bitMem_resMem_setMem b
    exact encode_spec_of_encodes (encodes_of_decodeCb hbit)
  | resMem b =>
    obtain ⟨-, hres, -⟩ := decodeCb_bitMem_resMem_setMem b
    exact encode_spec_of_encodes (encodes_of_decodeCb hres)
  | setMem b =>
    obtain ⟨-, -, hset⟩ := decodeCb_bitMem_resMem_setMem b
    exact encode_spec_of_encodes (encodes_of_decodeCb hset)
  | ldAAddr v | ldAddrA v | ldAddrSp v | jp v | call v =>
    exact ⟨encodes_wordImmediate (fun _ _ _ => rfl) v, rfl⟩
  | _ => exact ⟨fun _ => rfl, rfl⟩

/-- An unmapped byte decodes to R101's error, whatever follows it. -/
theorem illegal_encodes {b : Byte} (hb : b ∈ illegalOpcodes) : Encodes [b] (.illegal b) := by
  intro rest
  show decode (b :: rest) = .ok (.illegal b, rest)
  rw [decode_cons, instrLength_of_mem_illegalOpcodes hb]
  exact congrArg (fun i => Except.ok (i, rest)) (decodeBytes_of_mem_illegalOpcodes hb 0#8 0#8)

/-- Settles O1: an illegal term carries an unmapped byte, and any other is a form that `Form.encode_spec` is about. -/
theorem decodeOfEncode : Obligations.DecodeOfEncode := by
  intro i rest hi
  rw [← i.toInstr_form] at hi ⊢
  by_cases hf : ∃ b, i.form = .illegal b
  · obtain ⟨b, hb⟩ := hf
    rw [hb] at hi ⊢
    exact illegal_encodes (of_decide_eq_true hi) rest
  · obtain ⟨hencodes, -⟩ := Form.encode_spec fun b hb => hf ⟨b, hb⟩
    exact hencodes rest

/-- The encoding of every form is as long as R343 says; an illegal byte's is the byte it carries. -/
theorem encode_toInstr_length (f : Form) : (encode f.toInstr).length = Form.length f := by
  by_cases hf : ∃ b, f = .illegal b
  · obtain ⟨b, rfl⟩ := hf
    rfl
  · obtain ⟨-, hlength⟩ := Form.encode_spec fun b hb => hf ⟨b, hb⟩
    exact hlength

/-- Every form but an illegal byte's adds its cost to the cycle counter. -/
theorem Form.run_cycles {f : Form} {s t : State} (h : Form.run f s = .next t) :
    t.cycles = s.cycles + Form.mcycles s f := by
  cases f <;> cases h
  case alu op src => exact congrArg (s.cycles + ·) (sourceCycles_eq_mcycles op src s)
  case incReg | decReg | ldRegReg | ldRegImm | ldRegMem | rotReg | resReg | setReg =>
    exact congrArg (· + _) (State.writeReg_cycles s _ _)
  case incPair | decPair | ldPairImm => exact congrArg (· + _) (State.writePair_cycles s _ _)
  case pop => exact congrArg (· + 3) (State.writeStackPair_cycles s.pop16.2 _ _)
  case jpCond | jrCond | callCond | retCond =>
    simp only [Form.mcycles, jpCondOp, jrCondOp, callCondOp, retCondOp]
    split <;> rfl
  case reti =>
    obtain ⟨-, -, -, -, hcycles, -⟩ := retiOp_spec s
    exact hcycles
  case di => exact congrArg (· + 1) (State.setPending_cycles (s.setIme false) false)
  case ei => exact eiOp_cycles s
  all_goals rfl

/-- Every form but an illegal byte's takes from 1 to 6 M-cycles. -/
theorem Form.mcycles_bounds {f : Form} (hf : ∀ b, f ≠ .illegal b) (s : State) :
    1 ≤ Form.mcycles s f ∧ Form.mcycles s f ≤ 6 := by
  cases f with
  | illegal b => exact absurd rfl (hf b)
  | alu op src => cases src <;> simp [Form.mcycles]
  | jpCond cc | jrCond cc | callCond cc | retCond cc =>
    simp only [Form.mcycles]
    split <;> decide
  | _ => simp [Form.mcycles]

/-- Settles O14: `encode_toInstr_length`, `Form.run_cycles` and `Form.mcycles_bounds`. -/
theorem lengthAndCyclesOfEveryForm : Obligations.LengthAndCyclesOfEveryForm := by
  refine fun f s => ⟨encode_toInstr_length f, fun hf => ?_, ?_⟩
  · rw [exec_toInstr]
    obtain ⟨t, ht⟩ | ⟨b, hb, -⟩ := Form.run_cases f s
    · exact ⟨t, ht, Form.run_cycles ht, Form.mcycles_bounds hf s⟩
    · exact absurd hb (hf b)
  · rintro b rfl
    rfl

end Sys2Proof.Machine
end
